-- ==== Sys2Proof/Word.lean ====
section
/-! DEFINITION. The plain word types of the manual: bytes and sequence numbers. -/
namespace Sys2Proof

/-- One byte as it travels on a link or stands in a line (00 CONVENTIONS). -/
abbrev Byte := BitVec 8

/-- A number of the 24-bit write sequence counter (02 R24). -/
abbrev Seq := BitVec 24

/-- One configuration item: ten bytes, byte 0 the most significant (10 R198, R202). -/
abbrev Item := BitVec 80

end Sys2Proof
end

