-- ==== Sys2Proof/Config.lean ====
section
/-! DEFINITION. The fixed quantities of 00_scope.md (FIXED QUANTITIES) and the values the manual leaves open. -/
namespace Sys2Proof.Config

/-- Slots of the posting queue (00, 02 R21). -/
abbrev queueCapacity : Nat := 24
/-- Records of the fault list (00, 09 R173). -/
abbrev faultCapacity : Nat := 8
/-- Bytes of a line (00). -/
abbrev lineBytes : Nat := 32
/-- Bytes of a page (00). -/
abbrev pageBytes : Nat := 256
/-- Bytes of the marker record (08 R150). -/
abbrev markerBytes : Nat := 16
/-- Distinct lines that can be at risk at most: 24 queue lines and 8 lines of each buffer (00). -/
abbrev maxAtRisk : Nat := 40
/-- Least budget that allows a take, a drain request or a further drain attempt in PF_DRAIN (08 R165). -/
abbrev drainBudget : Nat := 2

/-- DESIGN CHOICE (log 3): what a byte of the serial memory reads as when nothing has written it.  Risky where a claim leans on it. -/
abbrev blankByte : Byte := 0xFF

/-- Free value (log 8): whether a strobe combination held for less than 50 ns begins an access (01 R1), by the moment. -/
opaque shortStrobeSeen : Nat → Bool

/-- Free value (log 9): the byte a failed program leaves at an address it covered (05 R96), by the moment and the address. -/
opaque failedProgramByte : Nat → Nat → Byte

/-- Free value (log 10): how many data bytes of a PAGE-WRITE the memory had received when RSTn cut it (05 R96, R98), by the moment. -/
opaque cutPageWriteBytes : Nat → Nat

/-- Free value (log 32): whether MDO is high between two memory operations while RSTn is high, by the moment (05 R94 gives
its level only while a command is on the wire, R98 while RSTn is low). -/
opaque mdoBetween : Nat → Bool

/-- Free value (log 32): what the part drives on SDO, if anything, as byte `i` of the partial frame that stood on the
maintenance link when RSTn rose with SSn low (10 R189), by the moment. -/
opaque sdoPartialFrame : Nat → Nat → Option Byte

end Sys2Proof.Config
end

