-- ==== Sys2Proof/Syntax.lean ====
section
/-! DEFINITION. The commands of the Rubalt PW24: one constructor for each row of spec/opcode_table.json, with the
operands that the row's rule names.  The bytes and the status that a memory operation returned are operands of the
completion that delivers them (05 R97). -/
namespace Sys2Proof

/-- The two host ports (00 SYSTEM PICTURE). -/
inductive Port where
  | A
  | B
deriving DecidableEq, Repr

/-- The table of operations and events.  Addresses of host accesses are halfword addresses, xA23..xA1. -/
inductive Instr where
  /-- 01 R1.  Port, xWEn low, xOEn low, xA23..xA1, lower lane, upper lane, xD15..xD0, strobes held for 50 ns. -/
  | hostAccessBegin (p : Port) (we oe : Bool) (addr : BitVec 23) (lower upper : Bool) (data : BitVec 16) (held : Bool)
  /-- 01 R4. -/
  | hostAccessEnd (p : Port)
  /-- 01 R5. -/
  | withdrawal (p : Port)
  /-- 01 R18. -/
  | stallTimerExpiry (p : Port)
  /-- 02 R35.  The line whose OPEN entry's window timer expires. -/
  | windowTimerExpiry (line : BitVec 19)
  /-- 04 R71. -/
  | takeRun
  /-- 02 R41. -/
  | slotArbiterServe
  /-- 01 R16. -/
  | portModeChange
  /-- 03 R55. -/
  | heldBackFetchEntry
  /-- 05 R104. -/
  | arbiterDecision
  /-- 03 R54.  The bytes returned for the even address and for the next one. -/
  | fetchCompletion (lower upper : Byte)
  /-- 04 R76.  The bytes returned, in address order. -/
  | gapReadCompletion (bytes : List Byte)
  /-- 05 R97. -/
  | writeEnableCompletion
  /-- 05 R99. -/
  | pageWriteCompletion
  /-- 05 R99. -/
  | pollIntervalExpiry
  /-- 05 R100.  The status byte returned. -/
  | readStatusCompletion (status : Byte)
  /-- 04 R78, 08 R156.  The bytes returned, in address order. -/
  | verifyReadCompletion (bytes : List Byte)
  /-- 01 R17.  The waiting port and whether the program succeeded. -/
  | throughWaiterOutcome (p : Port) (success : Bool)
  /-- 05 R99. -/
  | programTimerExpiry
  /-- 05 R101. -/
  | settleLimitExpiry
  /-- 05 R109. -/
  | pinWaitEnd
  /-- 05 R111. -/
  | directWaitLimitExpiry
  /-- 06 R120.  The three identification bytes returned. -/
  | directIdCompletion (b0 b1 b2 : Byte)
  /-- 06 R121.  The status byte returned. -/
  | directStatusCompletion (status : Byte)
  /-- 06 R122.  The 32 bytes returned, in address order. -/
  | directReadCompletion (bytes : List Byte)
  /-- 08 R152.  The three identification bytes returned. -/
  | probeReadIdCompletion (b0 b1 b2 : Byte)
  /-- 08 R153. -/
  | probeBusyTimerExpiry
  /-- 08 R154.  The 16 bytes returned, in address order. -/
  | markerReadCompletion (bytes : List Byte)
  /-- 08 R160. -/
  | pfailnFall
  /-- 08 R160. -/
  | pfailnRise
  /-- 08 R161. -/
  | filteredAssertion
  /-- 08 R170. -/
  | filteredRelease
  /-- 08 R172. -/
  | rstnFall
  /-- 11 R206.  The strap levels, whether each port's host strobes are active, and whether SSn is low (01 R6, 10 R189). -/
  | rstnRise (size1 size0 dclass strobesA strobesB ssnLow : Bool)
  /-- 10 R188.  The whole bytes received and the further bits. -/
  | frameCutShort (bytes : List Byte) (bits : Nat)
  /-- 10 R190.  The command code. -/
  | unknownCommand (code : Byte)
  /-- 10 R195. -/
  | status
  /-- 10 R193. -/
  | result
  /-- 10 R196. -/
  | readMarkerReport
  /-- 09 R177. -/
  | readFault
  /-- 09 R182. -/
  | readCounters
  /-- 09 R183. -/
  | clearCounters
  /-- 07 R134.  The mask byte of 10 R199. -/
  | setIrqMask (mask : Byte)
  /-- 07 R133.  The item number. -/
  | readActive (item : Byte)
  /-- 07 R133.  The item number. -/
  | readShadow (item : Byte)
  /-- 07 R131.  The item number and the ten item bytes. -/
  | writeShadow (item : Byte) (bytes : Item)
  /-- 07 R132. -/
  | revertShadow
  /-- 07 R136. -/
  | apply
  /-- 07 R140. -/
  | applyCompletion
  /-- 07 R144. -/
  | flush
  /-- 07 R145. -/
  | flushCompletion
  /-- 06 R118. -/
  | directId
  /-- 06 R118. -/
  | directStatus
  /-- 06 R118.  The line, three argument bytes (10 R199). -/
  | directRead (line : BitVec 24)
  /-- 06 R118.  The line, the 32 lane flags (bit i for offset i) and the 32 bytes in offset order. -/
  | directWrite (line : BitVec 24) (flags : BitVec 32) (data : List Byte)
  /-- 06 R113.  The buffer argument byte. -/
  | retryHeld (buffer : Byte)
  /-- 06 R115.  The buffer argument byte. -/
  | releaseHeld (buffer : Byte)
  /-- 08 R159. -/
  | reprobe
  /-- 10 R189. -/
  | ssnRiseAfterReset
deriving DecidableEq, Repr

end Sys2Proof
end

