-- ==== Sys2Proof/Machine/Operands.lean ====
section
/-! DEFINITION. The operand forms: fields of configuration items (10 R202), big-endian numbers (10 R197), the frame
lengths of the command codes (10 R199) and the runs of a DIRECT-WRITE (06 R124). -/
namespace Sys2Proof.Machine

/-- Byte `i` of a configuration item, byte 0 first (10 R202). -/
def itemByte (it : Item) (i : Nat) : Byte := it.extractLsb' (72 - 8 * i) 8

/-- The item whose ten bytes are `bs`, byte 0 first; a missing byte counts as 0. -/
def itemOfBytes (bs : List Byte) : Item :=
  (List.range 10).foldl (fun acc i => (acc <<< 8) ||| (bs.getD i 0).setWidth 80) 0

/-- The ten bytes of an item in the order they travel (10 R198). -/
def itemBytes (it : Item) : List Byte := (List.range 10).map (itemByte it)

/-! ### Window items (10 R202) -/

/-- Byte 0, bit 0. -/
def itemEnable (it : Item) : Bool := (itemByte it 0).getLsbD 0
/-- Bits 3 to 0 of byte 1 over byte 2: the base in 4 KiB units. -/
def itemBase (it : Item) : Nat := ((itemByte it 1).extractLsb' 0 4).toNat * 256 + (itemByte it 2).toNat
/-- Byte 3: the size exponent k. -/
def itemExponent (it : Item) : Nat := (itemByte it 3).toNat
/-- Byte 4: the class code. -/
def itemClassCode (it : Item) : Nat := (itemByte it 4).toNat
/-- Byte 5: the port permission code. -/
def itemPortCode (it : Item) : Nat := (itemByte it 5).toNat

/-! ### The globals item (10 R202) -/

/-- Bytes 0 and 1: the coalesce window in µs. -/
def globalsWindow (it : Item) : Nat := (itemByte it 0).toNat * 256 + (itemByte it 1).toNat
/-- Byte 2: the high watermark. -/
def globalsHwm (it : Item) : Nat := (itemByte it 2).toNat
/-- Byte 3: the stall limit code. -/
def globalsStallCode (it : Item) : Nat := (itemByte it 3).toNat
/-- Byte 4: the program timeout in ms. -/
def globalsTimeout (it : Item) : Nat := (itemByte it 4).toNat
/-- Byte 5: the retry limit. -/
def globalsRetryLimit (it : Item) : Nat := (itemByte it 5).toNat
/-- Byte 6: the verify code. -/
def globalsVerifyCode (it : Item) : Nat := (itemByte it 6).toNat
/-- Byte 7: the hold-up budget. -/
def globalsBudget (it : Item) : Nat := (itemByte it 7).toNat
/-- Byte 8: the fill value's high byte, of the upper lane. -/
def globalsFillUpper (it : Item) : Byte := itemByte it 8
/-- Byte 9: the fill value's low byte, of the lower lane. -/
def globalsFillLower (it : Item) : Byte := itemByte it 9

/-- The length of each stall limit code in µs (01 R18); a code above 7 is refused by validation and is read as code 7 (log 21). -/
def stallLimitMicros (code : Nat) : Nat :=
  [16, 64, 256, 1000, 4000, 16000, 64000, 256000].getD code 256000

/-- A window item is bad in one of the four ways of 07 R137. -/
def windowItemBad (it : Item) : Bool :=
  decide (12 < itemExponent it) || decide (itemBase it % 2 ^ itemExponent it ≠ 0)
    || decide (3 < itemClassCode it) || decide (itemPortCode it = 0) || decide (3 < itemPortCode it)

/-- The globals item is bad in one of the seven ways of 07 R137. -/
def globalsItemBad (it : Item) : Bool :=
  decide (255 < globalsWindow it) || decide (globalsHwm it = 0) || decide (24 < globalsHwm it)
    || decide (7 < globalsStallCode it) || decide (globalsTimeout it = 0) || decide (31 < globalsTimeout it)
    || decide (globalsRetryLimit it = 0) || decide (4 < globalsRetryLimit it) || decide (1 < globalsVerifyCode it)
    || decide (globalsBudget it < 2) || decide (32 < globalsBudget it)

/-- The window item of the given fields with every unused bit 0 (10 R198, R202). -/
def windowItem (enable : Bool) (base k cls ports : Nat) : Item :=
  itemOfBytes [cond enable 1 0, BitVec.ofNat 8 (base / 256), BitVec.ofNat 8 base, BitVec.ofNat 8 k,
    BitVec.ofNat 8 cls, BitVec.ofNat 8 ports, 0, 0, 0, 0]

/-- The globals item after cold reset (07 R129): coalesce window 16 µs, HWM 16, stall code 3, program timeout 10 ms,
retry limit 3, verify on, budget 8, fill value 0xFFFF. -/
def globalsColdReset : Item := itemOfBytes [0, 16, 16, 3, 10, 3, 1, 8, 0xFF, 0xFF]

/-- The size exponent k of default window 0 by SIZE1 and SIZE0 (01 R7, 07 R129): the memory holds 4 KiB × 2^k. -/
def strapExponent (size1 size0 : Bool) : Nat :=
  match size1, size0 with
  | false, false => 9
  | false, true => 10
  | true, false => 11
  | true, true => 12

/-- Window 0 after cold reset: enabled, base 0, the size of the memory, POSTED or by DCLASS high THROUGH, ports AB (07 R129). -/
def defaultWindow (size1 size0 dclass : Bool) : Item :=
  windowItem true 0 (strapExponent size1 size0) (cond dclass 2 0) 3

/-- Windows 1 to 7 after cold reset: off, base 0, k 0, POSTED, ports AB (07 R129). -/
def disabledWindow : Item := windowItem false 0 0 0 3

/-! ### Numbers on the wire (10 R197) -/

/-- Two bytes, most significant first. -/
def be16 (x : BitVec 16) : List Byte := [x.extractLsb' 8 8, x.extractLsb' 0 8]
/-- Three bytes, most significant first. -/
def be24 (x : BitVec 24) : List Byte := [x.extractLsb' 16 8, x.extractLsb' 8 8, x.extractLsb' 0 8]
/-- Four bytes, most significant first. -/
def be32 (x : BitVec 32) : List Byte := [x.extractLsb' 24 8, x.extractLsb' 16 8, x.extractLsb' 8 8, x.extractLsb' 0 8]

/-- Bit `k` of bytes that travel most significant bit first, bit 0 the first on the wire; 0 behind the last (05 R94, 10 R187). -/
def wireBit (bytes : List Byte) (k : Nat) : Bool := (bytes.getD (k / 8) 0).getMsbD (k % 8)

/-- The byte that eight levels on a data line carry from bit `start` on, the most significant bit first (05 R94, 10 R187). -/
def wireByte (level : Nat → Bool) (start : Nat) : Byte :=
  (List.range 8).foldl (fun acc j => (acc <<< 1) ||| cond (level (start + j)) 1 0) 0

/-- The whole bytes that the levels on a data line carry; a last byte cut short carries none (05 R94, 10 R187). -/
def wireBytes (levels : List Bool) : List Byte :=
  (List.range (levels.length / 8)).map fun i => wireByte (fun k => levels.getD k false) (8 * i)

/-- One bit as a number. -/
def bit (b : Bool) : Nat := cond b 1 0

/-- The lane flags of a DIRECT-WRITE as they travel: bit j of flag byte k flags offset 8k + j (10 R199). -/
def flagBytes (f : BitVec 32) : List Byte :=
  [f.extractLsb' 0 8, f.extractLsb' 8 8, f.extractLsb' 16 8, f.extractLsb' 24 8]

/-- The argument bytes that a command code fixes; none where the code names no command (10 R190, R199). -/
def argBytes (code : Byte) : Option Nat :=
  match code.toNat with
  | 0x01 | 0x02 | 0x03 | 0x10 | 0x11 | 0x12 | 0x23 | 0x30 | 0x31 | 0x38 | 0x39 | 0x48 => some 0
  | 0x13 | 0x20 | 0x21 | 0x40 | 0x41 => some 1
  | 0x3A => some 3
  | 0x22 => some 11
  | 0x3B => some 39
  | _ => none

/-- Bits of a frame after which its command is taken (10 R187): the command byte and its argument bytes; a code that
names no command is taken at the end of byte 0 (10 R190). -/
def takenAfterBits (code : Byte) : Nat := 8 * (1 + (argBytes code).getD 0)

/-- Rising edges of SCK that `bytes` whole bytes and `bits` further bits stand for. -/
def frameEdges (bytes : List Byte) (bits : Nat) : Nat := 8 * bytes.length + bits

/-- The frame ends after at least one edge and before its command is taken (10 R188). -/
def cutBeforeCommand (bytes : List Byte) (bits : Nat) : Bool :=
  match bytes with
  | [] => decide (0 < bits) && decide (bits < 8)
  | code :: _ => decide (bits < 8) && decide (frameEdges bytes bits < takenAfterBits code)

/-! ### Runs of a DIRECT-WRITE (06 R124) -/

/-- The runs of the flagged offsets from `off` on, as a start and a length: a run is a largest set of consecutive
offsets whose flags are set, in rising order.  `start` is the run in progress, if any; `fuel` offsets are left. -/
def runsFrom (flags : BitVec 32) : Nat → Nat → Option Nat → List (Nat × Nat)
  | 0, off, some st => [(st, off - st)]
  | 0, _, none => []
  | fuel + 1, off, start =>
    match flags.getLsbD off, start with
    | true, none => runsFrom flags fuel (off + 1) (some off)
    | true, some st => runsFrom flags fuel (off + 1) (some st)
    | false, some st => (st, off - st) :: runsFrom flags fuel (off + 1) none
    | false, none => runsFrom flags fuel (off + 1) none

/-- The runs of a DIRECT-WRITE, 1 to 16 of them when a flag is set (06 R124). -/
def directRuns (flags : BitVec 32) : List (Nat × Nat) := runsFrom flags 32 0 none

/-- The even byte address of a halfword address (01 R1). -/
def evenAddr (h : BitVec 23) : Nat := 2 * h.toNat
/-- The even byte address as the 24 bits a record carries (09 R175). -/
def evenAddr24 (h : BitVec 23) : BitVec 24 := BitVec.ofNat 24 (evenAddr h)
/-- The line of a byte address (00 CONVENTIONS). -/
def lineOf (a : Nat) : Nat := a / Config.lineBytes
/-- The page of a byte address (00 CONVENTIONS). -/
def pageOf (a : Nat) : Nat := a / Config.pageBytes
/-- The page of a line (02 R22). -/
def pageOfLine (l : Nat) : Nat := l / 8

end Sys2Proof.Machine
end

