-- ==== Sys2Proof/WellFormed.lean ====
section
/-! DEFINITION. Which commands the world can send: the operand checks that their types do not make. -/
namespace Sys2Proof

/-- A command is well formed when its operands are ones its rule allows: a begin has a strobe low (01 R1), a returned
byte string has the length that the memory operation reads (05 R94), a cut frame ends before its command is taken
(10 R188), an unknown code names no command (10 R190), and a DIRECT-WRITE carries 32 bytes (10 R199). -/
def Instr.wellFormed : Instr → Bool
  | .hostAccessBegin _ we oe _ _ _ _ _ => we || oe
  | .gapReadCompletion bs => decide (1 ≤ bs.length) && decide (bs.length ≤ Config.pageBytes)
  | .verifyReadCompletion bs => decide (1 ≤ bs.length) && decide (bs.length ≤ Config.pageBytes)
  | .directReadCompletion bs => decide (bs.length = Config.lineBytes)
  | .markerReadCompletion bs => decide (bs.length = Config.markerBytes)
  | .frameCutShort bs n => Machine.cutBeforeCommand bs n
  | .unknownCommand code => (Machine.argBytes code).isNone
  | .directWrite _ _ data => decide (data.length = Config.lineBytes)
  | .hostAccessEnd _ | .withdrawal _ | .stallTimerExpiry _ | .windowTimerExpiry _ | .takeRun | .slotArbiterServe
  | .portModeChange | .heldBackFetchEntry | .arbiterDecision | .fetchCompletion _ _ | .writeEnableCompletion
  | .pageWriteCompletion | .pollIntervalExpiry | .readStatusCompletion _ | .throughWaiterOutcome _ _
  | .programTimerExpiry | .settleLimitExpiry | .pinWaitEnd | .directWaitLimitExpiry | .directIdCompletion _ _ _
  | .directStatusCompletion _ | .probeReadIdCompletion _ _ _ | .probeBusyTimerExpiry | .pfailnFall | .pfailnRise
  | .filteredAssertion | .filteredRelease | .rstnFall | .rstnRise _ _ _ _ _ _ | .status | .result
  | .readMarkerReport | .readFault | .readCounters | .clearCounters | .setIrqMask _ | .readActive _ | .readShadow _
  | .writeShadow _ _ | .revertShadow | .apply | .applyCompletion | .flush | .flushCompletion | .directId
  | .directStatus | .directRead _ | .retryHeld _ | .releaseHeld _ | .reprobe | .ssnRiseAfterReset => true

end Sys2Proof
end

