-- ==== Sys2Proof/Decode.lean ====
section
/-! DEFINITION. The words of the table and the frames of the maintenance link.  The table gives no row any bits, so no
word spells a command; the frames that the supervisor sends are decoded and encoded as 10 R187 to R190 and R199 give them. -/
namespace Sys2Proof

/-- The command that a word spells by the table's bits: the table gives bits to no row (log 30). -/
def decodeTableWord (_nbits _w : Nat) : Option Instr := none

/-- Argument byte `i` of a frame. -/
def argByte (args : List Byte) (i : Nat) : Byte := args.getD i 0

/-- A line from its three argument bytes, most significant first (10 R197, R199). -/
def argLine (args : List Byte) : BitVec 24 := argByte args 0 ++ argByte args 1 ++ argByte args 2

/-- The lane flags from argument bytes 3 to 6: bit j of flag byte k flags offset 8k + j (10 R199). -/
def argFlags (args : List Byte) : BitVec 32 :=
  argByte args 6 ++ argByte args 5 ++ argByte args 4 ++ argByte args 3

/-- The command of a frame whose command has been taken: its code and the bytes that follow it, of which it reads as
many as its code fixes (10 R187, R190, R199). -/
def decodeCommand (code : Byte) (args : List Byte) : Instr :=
  match code.toNat with
  | 0x01 => .status
  | 0x02 => .result
  | 0x03 => .readMarkerReport
  | 0x10 => .readFault
  | 0x11 => .readCounters
  | 0x12 => .clearCounters
  | 0x13 => .setIrqMask (argByte args 0)
  | 0x20 => .readActive (argByte args 0)
  | 0x21 => .readShadow (argByte args 0)
  | 0x22 => .writeShadow (argByte args 0) (Machine.itemOfBytes (args.drop 1))
  | 0x23 => .revertShadow
  | 0x30 => .apply
  | 0x31 => .flush
  | 0x38 => .directId
  | 0x39 => .directStatus
  | 0x3A => .directRead (argLine args)
  | 0x3B => .directWrite (argLine args) (argFlags args) ((args.drop 7).take Config.lineBytes)
  | 0x40 => .retryHeld (argByte args 0)
  | 0x41 => .releaseHeld (argByte args 0)
  | 0x48 => .reprobe
  | _ => .unknownCommand code

/-- What a frame of `bytes` whole bytes and `bits` further bits is, from SSn fall to SSn rise (10 R187, R188, R190):
nothing where SCK never rose, FRAME_CUT_SHORT before its command is taken, and otherwise its command. -/
def decodeFrame (bytes : List Byte) (bits : Nat) : Option Instr :=
  if Machine.cutBeforeCommand bytes bits then some (.frameCutShort bytes bits)
  else
    match bytes with
    | [] => none
    | code :: args => some (decodeCommand code args)

/-- What a frame is by the levels on SDI at the rising edges of SCK from SSn fall to SSn rise: its bytes travel most
significant bit first (10 R187), and the bits of a byte cut short count for the cut alone (10 R188). -/
def decodeLevels (sdi : List Bool) : Option Instr := decodeFrame (Machine.wireBytes sdi) (sdi.length % 8)

/-- The levels on SDI, edge by edge, that the supervisor drives for a maintenance command's bytes (10 R187). -/
def sdiLevels (bytes : List Byte) : List Bool := (List.range (8 * bytes.length)).map (Machine.wireBit bytes)

/-- The bytes that the supervisor sends for a maintenance command, code and arguments (10 R199); none for the commands
that come in no frame. -/
def encodeFrame : Instr → Option (List Byte)
  | .status => some [0x01]
  | .result => some [0x02]
  | .readMarkerReport => some [0x03]
  | .readFault => some [0x10]
  | .readCounters => some [0x11]
  | .clearCounters => some [0x12]
  | .setIrqMask m => some [0x13, m]
  | .readActive i => some [0x20, i]
  | .readShadow i => some [0x21, i]
  | .writeShadow i bytes => some (0x22 :: i :: Machine.itemBytes bytes)
  | .revertShadow => some [0x23]
  | .apply => some [0x30]
  | .flush => some [0x31]
  | .directId => some [0x38]
  | .directStatus => some [0x39]
  | .directRead line => some (0x3A :: Machine.be24 line)
  | .directWrite line flags data => some (0x3B :: Machine.be24 line ++ Machine.flagBytes flags ++ data)
  | .retryHeld b => some [0x40, b]
  | .releaseHeld b => some [0x41, b]
  | .reprobe => some [0x48]
  | .unknownCommand code => some [code]
  | .hostAccessBegin _ _ _ _ _ _ _ _ | .hostAccessEnd _ | .withdrawal _ | .stallTimerExpiry _ | .windowTimerExpiry _
  | .takeRun | .slotArbiterServe | .portModeChange | .heldBackFetchEntry | .arbiterDecision | .fetchCompletion _ _
  | .gapReadCompletion _ | .writeEnableCompletion | .pageWriteCompletion | .pollIntervalExpiry | .readStatusCompletion _
  | .verifyReadCompletion _ | .throughWaiterOutcome _ _ | .programTimerExpiry | .settleLimitExpiry | .pinWaitEnd
  | .directWaitLimitExpiry | .directIdCompletion _ _ _ | .directStatusCompletion _ | .directReadCompletion _
  | .probeReadIdCompletion _ _ _ | .probeBusyTimerExpiry | .markerReadCompletion _ | .pfailnFall | .pfailnRise
  | .filteredAssertion | .filteredRelease | .rstnFall | .rstnRise _ _ _ _ _ _ | .frameCutShort _ _
  | .applyCompletion | .flushCompletion | .ssnRiseAfterReset => none

end Sys2Proof
end

