-- ==== Sys2Proof/Machine/Cells.lean ====
section
/-! DEFINITION. Bytes by offset or address in one canonical form, offsets strictly rising: the valid bytes of a queue
entry (02 R22) and of a page buffer (04 R66), and the serial memory's content (05 R95). -/
namespace Sys2Proof.Machine

/-- The byte at `a`, if one is listed. -/
def cellsGet : List Host.Cell → Nat → Option Byte
  | [], _ => none
  | (k, v) :: rest, a => if k = a then some v else cellsGet rest a

/-- The cells with byte `v` at `a`, replacing any earlier one. -/
def cellsPut : List Host.Cell → Nat → Byte → List Host.Cell
  | [], a, v => [(a, v)]
  | (k, w) :: rest, a, v =>
    if a < k then (a, v) :: (k, w) :: rest
    else if a = k then (a, v) :: rest
    else (k, w) :: cellsPut rest a v

/-- The cells without the byte at `a`. -/
def cellsErase (c : List Host.Cell) (a : Nat) : List Host.Cell := c.filter fun x => x.1 != a

/-- Every byte of `new` laid over `c`, in the order of `new`. -/
def cellsLay (c new : List Host.Cell) : List Host.Cell := new.foldl (fun acc x => cellsPut acc x.1 x.2) c

/-- The bytes of `new` whose place in `c` is empty are set there; the others are dropped (04 R75, R76). -/
def cellsFill (c new : List Host.Cell) : List Host.Cell :=
  new.foldl (fun acc x => if (cellsGet c x.1).isNone then cellsPut acc x.1 x.2 else acc) c

/-- Consecutive cells from `start` on. -/
def cellsAt (start : Nat) : List Byte → List Host.Cell
  | [] => []
  | v :: rest => (start, v) :: cellsAt (start + 1) rest

/-- The cells from `lo` to `hi`, both included. -/
def cellsWithin (c : List Host.Cell) (lo hi : Nat) : List Host.Cell :=
  c.filter fun x => decide (lo ≤ x.1) && decide (x.1 ≤ hi)

/-- The cells outside `lo` to `hi`. -/
def cellsOutside (c : List Host.Cell) (lo hi : Nat) : List Host.Cell :=
  c.filter fun x => !(decide (lo ≤ x.1) && decide (x.1 ≤ hi))

/-- The canonical form: offsets strictly rising. -/
def cellsWf : List Host.Cell → Bool
  | [] => true
  | [_] => true
  | x :: y :: rest => decide (x.1 < y.1) && cellsWf (y :: rest)

/-- The lowest offset held (04 R73); 0 where none is. -/
def cellsFirst (c : List Host.Cell) : Nat := (c.head?.map (·.1)).getD 0
/-- The highest offset held (04 R73); 0 where none is. -/
def cellsLast (c : List Host.Cell) : Nat := (c.getLast?.map (·.1)).getD 0

/-- The bytes from `first` on, `len` of them; an offset not held reads 0 (none is, where a page write carries them: 04 R73). -/
def cellsBytes (c : List Host.Cell) (first len : Nat) : List Byte :=
  (List.range' first len).map fun a => (cellsGet c a).getD 0

/-- The members of a list, each once. -/
def distinct (l : List Nat) : List Nat := l.foldr (fun x acc => if acc.contains x then acc else x :: acc) []

/-! ### The serial memory's content: an unlisted byte reads `Config.blankByte` (log 3) -/

/-- The byte that the memory holds at an address. -/
def memRead (c : List Host.Cell) (a : Nat) : Byte := (cellsGet c a).getD Config.blankByte

/-- The memory with one byte written, kept canonical. -/
def memWrite (c : List Host.Cell) (a : Nat) (v : Byte) : List Host.Cell :=
  if v = Config.blankByte then cellsErase c a else cellsPut c a v

/-- The memory with consecutive bytes written from `a` on (05 R96). -/
def memWriteAll (c : List Host.Cell) : Nat → List Byte → List Host.Cell
  | _, [] => c
  | a, v :: rest => memWriteAll (memWrite c a v) (a + 1) rest

/-- The canonical form of the memory: rising addresses and no entry equal to the blank byte. -/
def memWf (c : List Host.Cell) : Bool := cellsWf c && c.all fun x => x.2 != Config.blankByte

end Sys2Proof.Machine
end

