-- ==== Sys2Proof/Machine/State.lean ====
section
/-! DEFINITION. The state of the Rubalt PW24, block by block (00 BLOCK OVERVIEW): plain data throughout. -/
namespace Sys2Proof.Machine

/-- The machine never stops on a fault: every command of the table has an effect or none, and what the manual calls a
fault is a record in the fault list (09 R175).  A closed type with no constructor: nobody raises one (safe). -/
inductive Fault where
deriving DecidableEq, Repr

/-- Why a command is refused. -/
inductive Refusal where
  /-- Raised by the dispatcher alone for a command with no meaning yet; no arm raises it (safe: it only stops). -/
  | notModelled (mnemonic : String)
deriving DecidableEq, Repr

/-! ### Chip -/

/-- The sampled straps (11 R206). -/
structure Straps where
  size1 : Bool
  size0 : Bool
  /-- DCLASS high. -/
  dclass : Bool
deriving DecidableEq, Repr

/-! ### Host ports (01) -/

/-- 01 R3. -/
inductive PortState where
  | idle
  | modeStall
  | slotWait
  | fetchWait
  | throughWait
  | ending
deriving DecidableEq, Repr

/-- The access captured at its begin (01 R1). -/
structure Access where
  write : Bool
  addr : BitVec 23
  lower : Bool
  upper : Bool
  data : BitVec 16
deriving DecidableEq, Repr

/-- One host port (01 R1, R3, R4). -/
structure PortRec where
  state : PortState := .idle
  access : Option Access := none
  /-- The moment the access became a pending write, while it is one. -/
  waitStart : Option Nat := none
  /-- The number of an accepted THROUGH write. -/
  seq : Option Seq := none
  /-- Running, with its length in µs, or idle. -/
  stallTimer : Option Nat := none
  /-- xBERRn low while ENDING. -/
  error : Bool := false
  /-- What the port drives on xD15..xD0. -/
  dataOut : Option (BitVec 16) := none
deriving DecidableEq, Repr

structure Ports where
  a : PortRec := {}
  b : PortRec := {}
deriving DecidableEq, Repr

/-- A subset of the ports A and B (02 R22). -/
structure PortSet where
  a : Bool := false
  b : Bool := false
deriving DecidableEq, Repr

/-! ### Posting queue (02) -/

/-- The class a window gives to accesses in it (01 R7). -/
inductive AccessClass where
  | posted
  | ordered
  | through
  | readOnly
deriving DecidableEq, Repr

/-- One entry (02 R22).  `bytes` holds the valid bytes by offset; a byte that is not listed is not valid (log 17). -/
structure Entry where
  line : Nat
  bytes : List Host.Cell
  isOpen : Bool
  cls : AccessClass
  firstSeq : Seq
  lastSeq : Seq
  writers : PortSet
  waiters : PortSet
  /-- The window timer: running with its length in µs, or absent. -/
  timer : Option Nat
deriving DecidableEq, Repr

/-- The posting queue, oldest entry first (02 R21), and the write sequence counter (02 R24). -/
structure Queue where
  entries : List Entry := []
  counter : Seq := 0
deriving DecidableEq, Repr

/-! ### Read service (03) -/

inductive FetchState where
  | waiting
  | onLink
deriving DecidableEq, Repr

/-- One fetch (03 R51). -/
structure Fetch where
  port : Port
  addr : BitVec 23
  needLower : Bool
  needUpper : Bool
  capturedLower : Option Byte
  capturedUpper : Option Byte
  /-- The moment of the read's acceptance. -/
  order : Nat
  state : FetchState
  orphaned : Bool
deriving DecidableEq, Repr

structure ReadService where
  fetches : List Fetch := []
  /-- The fetch held back behind its port's orphaned fetch (03 R55). -/
  heldBack : Option Fetch := none
deriving DecidableEq, Repr

/-! ### Drain engine (04) -/

inductive Buf where
  | pb0
  | pb1
deriving DecidableEq, Repr

/-- 04 R67. -/
inductive BufState where
  | free
  | filled
  | gapRead
  | programming
  | verifying
  | held
deriving DecidableEq, Repr

/-- 04 R66. -/
inductive FailReason where
  | statusFail
  | verifyMismatch
  | timeout
deriving DecidableEq, Repr

/-- One page buffer (04 R66); the default of every field is its FREE value. -/
structure PageBuffer where
  state : BufState := .free
  page : Nat := 0
  /-- The valid bytes by page offset; a byte that is not listed is not valid (log 17). -/
  bytes : List Host.Cell := []
  /-- The fill stamp: of two buffers that are not FREE the larger is the younger (log 22). -/
  stamp : Nat := 0
  attempts : Nat := 0
  failure : Option FailReason := none
  firstSeq : Seq := 0
  lastSeq : Seq := 0
  waiters : PortSet := {}
  /-- FILLED by a suspension or by RETRY-HELD (04 R75; log 18). -/
  retried : Bool := false
deriving DecidableEq, Repr

structure Drain where
  pb0 : PageBuffer := {}
  pb1 : PageBuffer := {}
  /-- The next-buffer pointer (04 R68). -/
  next : Buf := .pb0
  /-- The held partner of the program operation in flight (04 R75). -/
  partner : Option Buf := none
  /-- The attempt in progress started in the present PF_DRAIN (08 R165; log 19). -/
  chargeable : Bool := false
deriving DecidableEq, Repr

/-! ### Memory link (05) -/

/-- A memory operation as the sequencer issues it (05 R94). -/
inductive MemOp where
  | readId
  | readStatus
  | writeEnable
  | pageWrite (addr : Nat) (data : List Byte)
  | readData (addr len : Nat)
deriving DecidableEq, Repr

/-- The four kinds of request (05 R103). -/
inductive ReqKind where
  | fetch
  | drain
  | control
  | direct
deriving DecidableEq, Repr

/-- The link operations (05 R97).  A SETTLE remembers the kind of request it was granted in place of (log 24). -/
inductive LinkOp where
  | fetch (p : Port)
  | program (b : Buf)
  | probe
  | markerRead
  | markerWrite
  | directId
  | directStatus
  | directRead
  | directWrite
  | settle (k : ReqKind)
deriving DecidableEq, Repr

structure Link where
  /-- FREE, or the link operation that holds the link. -/
  holder : Option LinkOp := none
  /-- The memory operation on the wire. -/
  wire : Option MemOp := none
  /-- The operation on the wire is no longer judged by its owner (log 13). -/
  stale : Bool := false
  /-- The operation to issue when the stale one completes (log 13). -/
  queued : Option MemOp := none
  /-- The 20 µs poll interval runs. -/
  pollWait : Bool := false
  pinWait : Bool := false
  /-- The attempt settles before its WRITE-ENABLE (05 R102). -/
  settling : Bool := false
  /-- The program timer: running with its length in ms, or idle. -/
  programTimer : Option Nat := none
  settleTimer : Bool := false
  /-- The memory condition: QUIET, or else UNSETTLED (05 R100). -/
  quiet : Bool := false
deriving DecidableEq, Repr

/-! ### Control block (07, 08) -/

/-- The bridge mode (08 R149). -/
inductive Mode where
  | starting
  | running
  | applying
  | pfDrain
  | pfDone
  | resuming
  | failed
deriving DecidableEq, Repr

/-- The state field of a marker record (08 R150). -/
inductive MarkerState where
  | running
  | clean
  | truncated
deriving DecidableEq, Repr

/-- The marker record but for its signature and check byte (08 R150). -/
structure MarkerRecord where
  state : MarkerState := .running
  bootCount : BitVec 16 := 0
  atRisk : Byte := 0
  firstSeq : Seq := 0
  lastSeq : Seq := 0
  epoch : Byte := 0
deriving DecidableEq, Repr

/-- The marker classification, with NONE for an empty report (10 R200). -/
inductive MarkerClass where
  | noReport
  | blank
  | clean
  | truncated
  | unclean
deriving DecidableEq, Repr

/-- The marker report (08 R155); the defaults are the empty report. -/
structure MarkerReport where
  previous : MarkerClass := .noReport
  bootCount : BitVec 16 := 0
  atRisk : Byte := 0
  firstSeq : Seq := 0
  lastSeq : Seq := 0
  epoch : Byte := 0
deriving DecidableEq, Repr

/-- The marker write in progress: its fixed record, attempts and last failure reason (08 R156, R168, R171). -/
structure MarkerWrite where
  record : MarkerRecord := {}
  attempts : Nat := 0
  failure : Option FailReason := none
deriving DecidableEq, Repr

/-- A control request (05 R103). -/
inductive CtrlReq where
  | probe
  | markerRead
  | markerWrite
deriving DecidableEq, Repr

/-- The control block (07 R135, R144; 08 R149, R160). -/
structure Control where
  mode : Mode := .starting
  bootCount : BitVec 16 := 0
  report : MarkerReport := {}
  budget : Nat := 0
  stopPending : Bool := false
  resumePending : Bool := false
  fromStarting : Bool := false
  /-- The level on the PFAILn pin: low. -/
  pfailLow : Bool := false
  /-- The filtered level: asserted. -/
  filtered : Bool := false
  /-- The filter's timer runs. -/
  filterTimer : Bool := false
  /-- The probe busy timer runs. -/
  probeTimer : Bool := false
  request : Option CtrlReq := none
  marker : MarkerWrite := {}
  epoch : Byte := 0
  /-- The flush mark and the discard flag of the FLUSH in the slot (07 R144); DESIGN CHOICE (log 34): both keep their last
  values once it has completed. -/
  flushMark : Seq := 0
  flushDiscard : Bool := false
deriving DecidableEq, Repr

/-- A configuration set of nine items (07 R128). -/
structure ConfigSet where
  w0 : Item
  w1 : Item
  w2 : Item
  w3 : Item
  w4 : Item
  w5 : Item
  w6 : Item
  w7 : Item
  globals : Item
deriving DecidableEq, Repr

/-! ### Fault unit (09) -/

/-- 09 R175. -/
inductive FaultKind where
  | writeRefused
  | readRefused
  | stallExpired
  | programFailed
  | drainHalted
  | heldSuperseded
  | heldReleased
  | previousLoss
  | startupFailed
  | markerFailed
deriving DecidableEq, Repr

/-- 09 R175. -/
inductive FaultSource where
  | portA
  | portB
  | drain
  | control
  | maint
deriving DecidableEq, Repr

/-- One fault record (09 R175). -/
structure FaultRecord where
  kind : FaultKind
  source : FaultSource
  epoch : Byte
  address : Option (BitVec 24) := none
  seq : Option Seq := none
  page : Option Nat := none
  retained : Option Bool := none
  /-- The items of 09 R176; DESIGN CHOICE (log 33): the bits that 10 R203 assigns to no item of the kind are 0. -/
  detail : Byte
deriving DecidableEq, Repr

/-- The six counters, in the order of 09 R181. -/
structure Counters where
  writesAccepted : BitVec 32 := 0
  merges : BitVec 32 := 0
  pageWrites : BitVec 32 := 0
  programRetries : BitVec 32 := 0
  stallExpiries : BitVec 32 := 0
  pfRefused : BitVec 32 := 0
deriving DecidableEq, Repr

structure FaultUnit where
  /-- The fault list, oldest record first (09 R173). -/
  list : List FaultRecord := []
  overflow : Byte := 0
  counters : Counters := {}
  faultEnable : Bool := false
  doneEnable : Bool := false
deriving DecidableEq, Repr

/-! ### Maintenance link interface (10) and the direct operation (06) -/

/-- What the long-operation slot holds (10 R191). -/
inductive LongKind where
  | idle
  | apply
  | flush
  | directId
  | directStatus
  | directRead
  | directWrite
deriving DecidableEq, Repr

/-- 10 R192. -/
inductive Completion where
  | ok
  | conflict
  | timedOut
  | memFail
  | abortedPfail
  | abortedHeld
  | blockedHeld
  | truncated
deriving DecidableEq, Repr

/-- A result record (10 R204); data bytes not listed are 0x00. -/
structure ResultRecord where
  kind : LongKind
  code : Completion
  data : List Byte
deriving DecidableEq, Repr

/-- The direct operation in the slot (06 R118, R124). -/
structure Direct where
  line : BitVec 24 := 0
  flags : BitVec 32 := 0
  data : List Byte := []
  issued : Nat := 0
  written : Nat := 0
  /-- It waits in the arbiter as the direct request; its wait timer runs exactly while it waits (05 R111). -/
  waiting : Bool := false
deriving DecidableEq, Repr

structure Maint where
  slot : LongKind := .idle
  result : Option ResultRecord := none
  ready : Bool := false
  frameErrors : Byte := 0
  /-- SSn was low at the rise of RSTn and has not risen since (10 R189). -/
  awaitSsn : Bool := false
  /-- The response of the last command taken: its code, then its data (10 R187). -/
  response : List Byte := []
  direct : Direct := {}
deriving DecidableEq, Repr

/-! ### The serial memory (05 R95, R96) -/

/-- The serial memory as the rules of chapter 5 describe it (log 3, log 4). -/
structure SerialMemory where
  cells : List Host.Cell := []
  busy : Bool := false
  writeEnabled : Bool := false
  writeFail : Bool := false
  /-- The address and bytes of the program in progress. -/
  program : Option (Nat × List Byte) := none
deriving DecidableEq, Repr

/-! ### The machine -/

/-- The whole part, the serial memory beside it, and the commands that wait. -/
structure State where
  rstn : Bool
  straps : Straps
  ports : Ports
  queue : Queue
  reads : ReadService
  drain : Drain
  link : Link
  control : Control
  shadow : ConfigSet
  active : ConfigSet
  faults : FaultUnit
  maint : Maint
  memory : SerialMemory
  /-- The count of events: the moment of a wait start or an acceptance, and the index of free values (log 7). -/
  now : Nat
  /-- The commands that wait, first in, first out (log 30). -/
  pending : List Instr
deriving DecidableEq, Repr

/-- Both configuration sets at cold reset (07 R129). -/
def ConfigSet.coldReset (st : Straps) : ConfigSet :=
  { w0 := defaultWindow st.size1 st.size0 st.dclass
    w1 := disabledWindow, w2 := disabledWindow, w3 := disabledWindow, w4 := disabledWindow, w5 := disabledWindow
    w6 := disabledWindow, w7 := disabledWindow
    globals := globalsColdReset }

/-- DESIGN CHOICE (log 2): the straps before RSTn has risen. -/
def Straps.unsampled : Straps := ⟨false, false, false⟩

/-- The machine in cold reset, RSTn low, as each chapter gives it (11 R206; log 1). -/
def State.reset : State :=
  { rstn := false
    straps := Straps.unsampled
    ports := {}
    queue := {}
    reads := {}
    drain := {}
    link := {}
    control := {}
    shadow := ConfigSet.coldReset Straps.unsampled
    active := ConfigSet.coldReset Straps.unsampled
    faults := {}
    maint := {}
    memory := {}
    now := 0
    pending := [] }

end Sys2Proof.Machine
end

