-- ==== Sys2Proof/Machine/Ops.lean ====
section
/-! DEFINITION. The named operations on the state: one setter for each block, the accessors of ports and buffers, the
completion of a host access (01 R4), fault records (09 R173), counters (09 R181), the completion of a long operation
(10 R192) and the tracking of the serial memory (05 R95, R96). -/
namespace Sys2Proof.Machine

/-! ### One setter for each block -/

def State.setPorts (s : State) (x : Ports) : State := { s with ports := x }
def State.setQueue (s : State) (x : Queue) : State := { s with queue := x }
def State.setReads (s : State) (x : ReadService) : State := { s with reads := x }
def State.setDrain (s : State) (x : Drain) : State := { s with drain := x }
def State.setLink (s : State) (x : Link) : State := { s with link := x }
def State.setControl (s : State) (x : Control) : State := { s with control := x }
def State.setShadow (s : State) (x : ConfigSet) : State := { s with shadow := x }
def State.setActive (s : State) (x : ConfigSet) : State := { s with active := x }
def State.setFaults (s : State) (x : FaultUnit) : State := { s with faults := x }
def State.setMaint (s : State) (x : Maint) : State := { s with maint := x }
def State.setMemory (s : State) (x : SerialMemory) : State := { s with memory := x }
/-- The moment moves on by one (log 7). -/
def State.tick (s : State) : State := { s with now := s.now + 1 }
def State.setPending (s : State) (x : List Instr) : State := { s with pending := x }

/-! ### Ports -/

def State.port (s : State) : Port → PortRec
  | .A => s.ports.a
  | .B => s.ports.b

def State.setPort (s : State) (p : Port) (r : PortRec) : State :=
  match p with
  | .A => s.setPorts { s.ports with a := r }
  | .B => s.setPorts { s.ports with b := r }

def PortSet.has (w : PortSet) : Port → Bool
  | .A => w.a
  | .B => w.b

def PortSet.insert (w : PortSet) : Port → PortSet
  | .A => { w with a := true }
  | .B => { w with b := true }

def PortSet.remove (w : PortSet) : Port → PortSet
  | .A => { w with a := false }
  | .B => { w with b := false }

def PortSet.union (v w : PortSet) : PortSet := ⟨v.a || w.a, v.b || w.b⟩

/-- The source of a port's fault records (09 R175). -/
def portSource : Port → FaultSource
  | .A => .portA
  | .B => .portB

/-- The access of the port is a read. -/
def PortRec.reads (r : PortRec) : Bool := r.access.any fun a => !a.write
/-- The access of the port is a write. -/
def PortRec.writes (r : PortRec) : Bool := r.access.any fun a => a.write
/-- The even byte address of the access, 0 where there is none. -/
def PortRec.address (r : PortRec) : BitVec 24 := (r.access.map fun a => evenAddr24 a.addr).getD 0

/-! ### Buffers -/

def Buf.other : Buf → Buf
  | .pb0 => .pb1
  | .pb1 => .pb0

def Drain.buf (d : Drain) : Buf → PageBuffer
  | .pb0 => d.pb0
  | .pb1 => d.pb1

def Drain.setBuf (d : Drain) (b : Buf) (x : PageBuffer) : Drain :=
  match b with
  | .pb0 => { d with pb0 := x }
  | .pb1 => { d with pb1 := x }

def State.buf (s : State) (b : Buf) : PageBuffer := s.drain.buf b
def State.setBuf (s : State) (b : Buf) (x : PageBuffer) : State := s.setDrain (s.drain.setBuf b x)

/-- A FREE buffer: every field at its FREE value (04 R66). -/
def PageBuffer.freed : PageBuffer := {}

/-! ### The active set (07 R130) -/

/-- Item `i` of a set, 0 to 7 the windows and the rest the globals (07 R128). -/
def ConfigSet.item (c : ConfigSet) : Nat → Item
  | 0 => c.w0
  | 1 => c.w1
  | 2 => c.w2
  | 3 => c.w3
  | 4 => c.w4
  | 5 => c.w5
  | 6 => c.w6
  | 7 => c.w7
  | _ => c.globals

/-- The set with item `i` replaced whole (07 R131). -/
def ConfigSet.setItem (c : ConfigSet) (i : Nat) (x : Item) : ConfigSet :=
  match i with
  | 0 => { c with w0 := x }
  | 1 => { c with w1 := x }
  | 2 => { c with w2 := x }
  | 3 => { c with w3 := x }
  | 4 => { c with w4 := x }
  | 5 => { c with w5 := x }
  | 6 => { c with w6 := x }
  | 7 => { c with w7 := x }
  | _ => { c with globals := x }

/-- The windows, index 0 first. -/
def ConfigSet.windows (c : ConfigSet) : List Item := [c.w0, c.w1, c.w2, c.w3, c.w4, c.w5, c.w6, c.w7]

/-- The items in validation order, with the verdict on each (07 R137). -/
def ConfigSet.badItems (c : ConfigSet) : List Bool := c.windows.map windowItemBad ++ [globalsItemBad c.globals]

/-- The index of the first bad item (07 R137). -/
def ConfigSet.firstBad (c : ConfigSet) : Option Nat := c.badItems.findIdx? id

def State.hwm (s : State) : Nat := globalsHwm s.active.globals
def State.coalesceWindow (s : State) : Nat := globalsWindow s.active.globals
def State.stallLimit (s : State) : Nat := stallLimitMicros (globalsStallCode s.active.globals)
def State.programTimeout (s : State) : Nat := globalsTimeout s.active.globals
def State.retryLimit (s : State) : Nat := globalsRetryLimit s.active.globals
def State.verify (s : State) : Bool := globalsVerifyCode s.active.globals == 1
def State.holdUpBudget (s : State) : Nat := globalsBudget s.active.globals
/-- The fill value of the active set: upper lane over lower lane (01 R11). -/
def State.fill (s : State) : BitVec 16 := globalsFillUpper s.active.globals ++ globalsFillLower s.active.globals

/-! ### The memory's size and the marker page (00 FIXED QUANTITIES) -/

def Straps.memoryBytes (st : Straps) : Nat := 4096 * 2 ^ strapExponent st.size1 st.size0
def State.memoryBytes (s : State) : Nat := s.straps.memoryBytes
/-- The first byte address of the marker page. -/
def State.markerAddr (s : State) : Nat := s.memoryBytes - Config.pageBytes
def State.markerPage (s : State) : Nat := pageOf s.markerAddr

/-! ### The end of a host access (01 R4) -/

/-- ENDING with its outcome; the stall timer stops and the access is no pending write. -/
def PortRec.completed (r : PortRec) (error : Bool) (data : Option (BitVec 16)) : PortRec :=
  { r with state := .ending, waitStart := none, stallTimer := none, error := error, dataOut := data }

/-- Normal completion; a read is given its data. -/
def State.completeNormal (s : State) (p : Port) (data : Option (BitVec 16)) : State :=
  s.setPort p ((s.port p).completed false data)

/-- Error completion; a read is given the fill value of the active set as it stands (01 R11). -/
def State.completeError (s : State) (p : Port) : State :=
  s.setPort p ((s.port p).completed true (if (s.port p).reads then some s.fill else none))

/-! ### Fault records and counters (09) -/

/-- A record joins the list, or is dropped and counted up to 255 (09 R173, R180). -/
def FaultUnit.append (u : FaultUnit) (r : FaultRecord) : FaultUnit :=
  if u.list.length < Config.faultCapacity then { u with list := u.list ++ [r] }
  else if u.overflow = 255 then u
  else { u with overflow := u.overflow + 1 }

def State.addFault (s : State) (r : FaultRecord) : State := s.setFaults (s.faults.append r)

def State.setCounters (s : State) (c : Counters) : State := s.setFaults { s.faults with counters := c }

def State.countWriteAccepted (s : State) : State :=
  s.setCounters { s.faults.counters with writesAccepted := s.faults.counters.writesAccepted + 1 }
def State.countMerge (s : State) : State :=
  s.setCounters { s.faults.counters with merges := s.faults.counters.merges + 1 }
def State.countPageWrite (s : State) : State :=
  s.setCounters { s.faults.counters with pageWrites := s.faults.counters.pageWrites + 1 }
def State.countRetry (s : State) : State :=
  s.setCounters { s.faults.counters with programRetries := s.faults.counters.programRetries + 1 }
def State.countStall (s : State) : State :=
  s.setCounters { s.faults.counters with stallExpiries := s.faults.counters.stallExpiries + 1 }
def State.countPfRefused (s : State) : State :=
  s.setCounters { s.faults.counters with pfRefused := s.faults.counters.pfRefused + 1 }

/-! ### The completion of a long operation (10 R192) -/

/-- The result record is placed with the slot's kind, result-ready is set and the slot becomes idle.  DESIGN CHOICE (log 34):
what the operation kept for itself, a FLUSH's mark and discard flag or a direct operation's arguments and runs, stays as it is. -/
def Maint.complete (m : Maint) (code : Completion) (data : List Byte) : Maint :=
  { m with result := some ⟨m.slot, code, data⟩, ready := true, slot := .idle }

def State.completeLong (s : State) (code : Completion) (data : List Byte) : State :=
  s.setMaint (s.maint.complete code data)

/-- The response to the command taken: its code and its data (10 R187). -/
def State.respond (s : State) (code : Byte) (data : List Byte) : State :=
  s.setMaint { s.maint with response := code :: data }

/-! ### The serial memory (05 R95, R96; log 4) -/

/-- WRITE-ENABLE: ignored while busy. -/
def SerialMemory.writeEnable (m : SerialMemory) : SerialMemory :=
  if m.busy then m else { m with writeEnabled := true, writeFail := false }

/-- PAGE-WRITE: starts a program when enabled and not busy, otherwise ignored with no flag changed. -/
def SerialMemory.pageWrite (m : SerialMemory) (addr : Nat) (data : List Byte) : SerialMemory :=
  if !m.busy && m.writeEnabled then { m with busy := true, program := some (addr, data) } else m

/-- The program ends: BUSY and WRITE_ENABLED clear and WRITE_FAIL tells a failure.  A failed program leaves free
values in the bytes it covered (log 9). -/
def SerialMemory.endProgram (m : SerialMemory) (failed : Bool) (now : Nat) : SerialMemory :=
  match m.program with
  | some (addr, data) =>
    let left := if failed then (List.range data.length).map fun i => Config.failedProgramByte now (addr + i) else data
    { m with cells := memWriteAll m.cells addr left, busy := false, writeEnabled := false, writeFail := failed, program := none }
  | none => { m with busy := false, writeEnabled := false, writeFail := failed }

/-- The flags of a status byte (05 R95). -/
def statusBusy (st : Byte) : Bool := st.getLsbD 0
def statusWriteEnabled (st : Byte) : Bool := st.getLsbD 1
def statusWriteFail (st : Byte) : Bool := st.getLsbD 5

/-- A status that reads BUSY 0 shows that the program in progress has ended, as its WRITE_FAIL tells. -/
def SerialMemory.sawStatus (m : SerialMemory) (st : Byte) (now : Nat) : SerialMemory :=
  if m.busy && !statusBusy st then m.endProgram (statusWriteFail st) now else m

/-- The operation on the wire is cut by RSTn (05 R96, R98): a PAGE-WRITE of which at least one byte had been received
(log 10) starts a program of the bytes received; any other command cut short has no effect. -/
def SerialMemory.cut (m : SerialMemory) (wire : Option MemOp) (now : Nat) : SerialMemory :=
  match wire with
  | some (.pageWrite addr data) =>
    let got := data.take (Config.cutPageWriteBytes now)
    if got.isEmpty then m else m.pageWrite addr got
  | _ => m

end Sys2Proof.Machine
end

