-- ==== Sys2Proof/Machine/Flags.lean ====
section
/-! DEFINITION. The views of the state that hold no state of their own: pins, status flags, HALTED, pins of pages, the
occupancy against the high watermark, and the wire form of a memory operation. -/
namespace Sys2Proof.Machine

/-! ### Ports (01 R3) -/

/-- An access waits: xWAITn is low, and the stalled flag of STATUS is set. -/
def PortState.waiting : PortState → Bool
  | .modeStall | .slotWait | .fetchWait | .throughWait => true
  | .idle | .ending => false

/-- xWAITn is low (01 R3). -/
def State.waitLow (s : State) (p : Port) : Bool := (s.port p).state.waiting
/-- xBERRn is low: ENDING after an error outcome (01 R3, R4). -/
def State.berrLow (s : State) (p : Port) : Bool := (s.port p).state == .ending && (s.port p).error
/-- The stalled flag (01 R3). -/
def State.stalled (s : State) (p : Port) : Bool := (s.port p).state.waiting

/-- The port holds a pending write: a write in MODE_STALL or SLOT_WAIT (01 R3). -/
def PortRec.pendingWrite (r : PortRec) : Bool := (r.state == .modeStall || r.state == .slotWait) && r.writes
/-- The port holds a read that waits for the mode. -/
def PortRec.stalledRead (r : PortRec) : Bool := r.state == .modeStall && r.reads

/-! ### Queue (02 R37, R45) -/

def Queue.occupancy (q : Queue) : Nat := q.entries.length
def Queue.openCount (q : Queue) : Nat := (q.entries.filter (·.isOpen)).length
/-- The head exists and is CLOSED. -/
def Queue.headClosed (q : Queue) : Bool :=
  match q.entries with
  | [] => false
  | e :: _ => !e.isOpen
/-- The occupancy is at or above the HWM of the active set (05 R107). -/
def State.atHwm (s : State) : Bool := decide (s.hwm ≤ s.queue.occupancy)

/-! ### Drain engine (04) -/

/-- In a program operation (04 R67). -/
def BufState.inProgram : BufState → Bool
  | .gapRead | .programming | .verifying => true
  | .free | .filled | .held => false

/-- HALTED: both buffers are HELD (04 R85). -/
def Drain.halted (d : Drain) : Bool := d.pb0.state == .held && d.pb1.state == .held
def State.halted (s : State) : Bool := s.drain.halted

/-- The lines of its page that a buffer carries (04 R66); a FREE buffer carries none. -/
def PageBuffer.lines (b : PageBuffer) : List Nat :=
  if b.state == .free then [] else distinct (b.bytes.map fun c => b.page * 8 + lineOf c.1)

/-- The span's first offset and length (04 R73). -/
def PageBuffer.spanFirst (b : PageBuffer) : Nat := cellsFirst b.bytes
def PageBuffer.spanLen (b : PageBuffer) : Nat := if b.bytes.isEmpty then 0 else cellsLast b.bytes - cellsFirst b.bytes + 1
/-- The byte address and the bytes of the page write (04 R73). -/
def PageBuffer.spanAddr (b : PageBuffer) : Nat := b.page * Config.pageBytes + b.spanFirst
def PageBuffer.spanBytes (b : PageBuffer) : List Byte := cellsBytes b.bytes b.spanFirst b.spanLen

/-- The mode and the budget let the drain work (04 R69, R72, R90). -/
def State.drainRuns (s : State) : Bool :=
  match s.control.mode with
  | .running | .applying => true
  | .pfDrain => decide (Config.drainBudget ≤ s.control.budget)
  | .starting | .pfDone | .resuming | .failed => false

/-- A take run can be made (04 R69). -/
def State.canTake (s : State) : Bool :=
  s.drainRuns && !s.halted && (s.drain.pb0.state == .free || s.drain.pb1.state == .free) && s.queue.headClosed

/-! ### Link (05) -/

/-- A fetch of the page is in the fetch list (05 R108). -/
def State.pinned (s : State) (page : Nat) : Bool :=
  s.reads.fetches.any fun f => pageOf (evenAddr f.addr) == page

/-- MCSn is low: a memory operation is on the wire (05 R94). -/
def State.mcsLow (s : State) : Bool := s.link.wire.isSome

/-- The bytes the part sends on MDO for a memory operation: the command byte, the address if it takes one, and the data
of a PAGE-WRITE (05 R94). -/
def MemOp.sent : MemOp → List Byte
  | .readId => [0xB1]
  | .readStatus => [0xB5]
  | .writeEnable => [0xC6]
  | .pageWrite addr data => 0xD2 :: be24 (BitVec.ofNat 24 addr) ++ data
  | .readData addr _ => 0xE3 :: be24 (BitVec.ofNat 24 addr)

/-- How many bytes the memory sends back (05 R94). -/
def MemOp.answerLen : MemOp → Nat
  | .readId => 3
  | .readStatus => 1
  | .writeEnable => 0
  | .pageWrite _ _ => 0
  | .readData _ len => len

/-- A link operation that begins with WRITE-ENABLE, PAGE-WRITE or READ-DATA needs a quiet memory (05 R101). -/
def LinkOp.needsQuiet : LinkOp → Bool
  | .fetch _ | .program _ | .markerRead | .markerWrite | .directRead | .directWrite => true
  | .probe | .directId | .directStatus | .settle _ => false

/-! ### Interrupt line (09 R184) -/

/-- IRQn is low. -/
def State.irqLow (s : State) : Bool :=
  (s.faults.faultEnable && !s.faults.list.isEmpty) || (s.faults.doneEnable && s.maint.ready)

/-! ### Sequence order (02 R25) -/

/-- How far a number lies behind the counter, counting back with the wrap. -/
def seqAge (counter x : Seq) : Nat := (counter - x).toNat
/-- `x` is the earlier of the two. -/
def seqEarlier (counter x y : Seq) : Bool := decide (seqAge counter y < seqAge counter x)
/-- `x` is at or before the mark (07 R145). -/
def seqAtOrBefore (counter x mark : Seq) : Bool := decide (seqAge counter mark ≤ seqAge counter x)
/-- The earliest of the numbers, `y` if there is no other. -/
def seqEarliest (counter : Seq) (y : Seq) (l : List Seq) : Seq :=
  l.foldl (fun acc x => if seqEarlier counter x acc then x else acc) y
/-- The latest of the numbers, `y` if there is no other. -/
def seqLatest (counter : Seq) (y : Seq) (l : List Seq) : Seq :=
  l.foldl (fun acc x => if seqEarlier counter acc x then x else acc) y

end Sys2Proof.Machine
end

