-- ==== Sys2Proof/Machine/Windows.lean ====
section
/-! DEFINITION. The window table: matching and classification of a host access (01 R7, R8, R9). -/
namespace Sys2Proof.Machine

/-- Why a classification refuses an access (01 R9). -/
inductive RefusalReason where
  | unmapped
  | markerPage
  | notPermitted
  | readOnly
deriving DecidableEq, Repr

/-- The answer of a classification (01 R9). -/
inductive Verdict where
  | refused (r : RefusalReason)
  | classed (c : AccessClass)
deriving DecidableEq, Repr

/-- The window matches the byte address (01 R7). -/
def windowMatches (it : Item) (a : Nat) : Bool :=
  itemEnable it && decide (itemBase it * 4096 ≤ a) && decide (a < itemBase it * 4096 + 4096 * 2 ^ itemExponent it)

/-- The window's port permission includes the port: 1 A, 2 B, 3 AB (10 R202). -/
def windowPermits (it : Item) : Port → Bool
  | .A => itemPortCode it == 1 || itemPortCode it == 3
  | .B => itemPortCode it == 2 || itemPortCode it == 3

/-- The window's class: 0 POSTED, 1 ORDERED, 2 THROUGH, 3 READ_ONLY (10 R202); the active set holds no other code (log 21). -/
def windowClass (it : Item) : AccessClass :=
  match itemClassCode it with
  | 0 => .posted
  | 1 => .ordered
  | 2 => .through
  | _ => .readOnly

/-- Classification of an access by address and port, in the order of 01 R9. -/
def State.classify (s : State) (p : Port) (write : Bool) (a : Nat) : Verdict :=
  if pageOf a = s.markerPage then .refused .markerPage
  else if s.memoryBytes ≤ a then .refused .unmapped
  else
    match s.active.windows.find? (fun it => windowMatches it a) with
    | none => .refused .unmapped
    | some it =>
      if !windowPermits it p then .refused .notPermitted
      else if write && windowClass it == .readOnly then .refused .readOnly
      else .classed (windowClass it)

end Sys2Proof.Machine
end

