-- ==== Sys2Proof/Machine/Posting.lean ====
section
/-! DEFINITION. The posting queue's own operations: acceptance of a write (02 R27 to R32), closing (02 R34 to R38), the
run that a take removes (02 R43) and the lookup of a byte (02 R44). -/
namespace Sys2Proof.Machine

/-- A write as a port offers it: port, line, the enabled bytes by offset, class (02 R27). -/
structure WriteOffer where
  port : Port
  line : Nat
  bytes : List Host.Cell
  cls : AccessClass
deriving DecidableEq, Repr

/-- The queue's answer to an offer (02 R27). -/
inductive Answer where
  | merged
  | allocated
  | noSlot
deriving DecidableEq, Repr

/-- CLOSED, its window timer stopped and removed (02 R23). -/
def Entry.close (e : Entry) : Entry := { e with isOpen := false, timer := none }

/-- The entry is the OPEN entry of the line. -/
def Entry.isOpenOf (e : Entry) (line : Nat) : Bool := e.isOpen && e.line == line

/-- Every OPEN entry closes (02 R38). -/
def Queue.closeAll (q : Queue) : Queue := { q with entries := q.entries.map Entry.close }

/-- The line's OPEN entry closes, if there is one (02 R31, R35). -/
def Queue.closeLine (q : Queue) (line : Nat) : Queue :=
  { q with entries := q.entries.map fun e => if e.isOpenOf line then e.close else e }

def closeHead : List Entry → List Entry
  | [] => []
  | e :: rest => e.close :: rest

/-- The high-watermark check: at or above the HWM the head closes, and no other entry (02 R37). -/
def Queue.hwmCheck (q : Queue) (hwm : Nat) : Queue :=
  if hwm ≤ q.entries.length then { q with entries := closeHead q.entries } else q

/-- The line has an OPEN entry. -/
def Queue.hasOpen (q : Queue) (line : Nat) : Bool := q.entries.any (·.isOpenOf line)

/-- The line's OPEN entry is the youngest entry of the whole queue (02 R31). -/
def Queue.youngestIsOpenOf (q : Queue) (line : Nat) : Bool :=
  match q.entries.getLast? with
  | some e => e.isOpenOf line
  | none => false

/-- A merge into one entry; a full line closes it (02 R28, R34). -/
def Entry.merge (e : Entry) (o : WriteOffer) (seq : Seq) : Entry :=
  let e' := { e with bytes := cellsLay e.bytes o.bytes, lastSeq := seq, writers := e.writers.insert o.port }
  if Config.lineBytes ≤ e'.bytes.length then e'.close else e'

/-- The merge into the line's OPEN entry, with the next sequence number (02 R24, R28). -/
def Queue.merge (q : Queue) (o : WriteOffer) : Queue :=
  { entries := q.entries.map fun e => if e.isOpenOf o.line then e.merge o (q.counter + 1) else e
    counter := q.counter + 1 }

/-- The entry an allocation places (02 R29): OPEN with the coalesce window as its timer, or CLOSED for a window of 0. -/
def newEntry (o : WriteOffer) (seq : Seq) (window : Nat) : Entry :=
  { line := o.line
    bytes := cellsLay [] o.bytes
    isOpen := decide (window ≠ 0)
    cls := o.cls
    firstSeq := seq
    lastSeq := seq
    writers := PortSet.insert {} o.port
    waiters := {}
    timer := if window = 0 then none else some window }

/-- A new entry joins at the young end with the next sequence number (02 R24, R29). -/
def Queue.place (q : Queue) (o : WriteOffer) (window : Nat) : Queue :=
  { entries := q.entries ++ [newEntry o (q.counter + 1) window], counter := q.counter + 1 }

/-- A free slot exists (02 R21). -/
def Queue.hasSlot (q : Queue) : Bool := decide (q.entries.length < Config.queueCapacity)

/-- The youngest entry takes the port as a waiter (02 R32). -/
def Queue.addWaiter (q : Queue) (line : Nat) (p : Port) : Queue :=
  match q.entries.getLast? with
  | some e => if e.line = line then { q with entries := q.entries.dropLast ++ [{ e with waiters := e.waiters.insert p }] } else q
  | none => q

/-- 02 R30: POSTED merges into the line's OPEN entry wherever it stands, or allocates, or finds no slot. -/
def Queue.offerPosted (q : Queue) (o : WriteOffer) (window hwm : Nat) : Answer × Queue :=
  if q.hasOpen o.line then (.merged, q.merge o)
  else if q.hasSlot then (.allocated, (q.place o window).hwmCheck hwm)
  else (.noSlot, q)

/-- 02 R31: ORDERED merges only into the youngest entry; otherwise it closes the line's OPEN entry and allocates. -/
def Queue.offerOrdered (q : Queue) (o : WriteOffer) (window hwm : Nat) : Answer × Queue :=
  if q.youngestIsOpenOf o.line then (.merged, q.merge o)
  else if q.hasSlot then (.allocated, ((q.closeLine o.line).place o window).hwmCheck hwm)
  else (.noSlot, q)

/-- 02 R32: THROUGH merges only into the youngest entry, otherwise allocates; then its entry and every older one are
CLOSED and the port waits on it. -/
def Queue.offerThrough (q : Queue) (o : WriteOffer) (window hwm : Nat) : Answer × Queue :=
  if q.youngestIsOpenOf o.line then (.merged, (q.merge o).closeAll.addWaiter o.line o.port)
  else if q.hasSlot then
    (.allocated, (((q.closeLine o.line).place o window).closeAll.addWaiter o.line o.port).hwmCheck hwm)
  else (.noSlot, q)

/-- One offer, under the rule of its class (02 R27).  A READ_ONLY write is refused by classification and is never offered (01 R9). -/
def Queue.offer (q : Queue) (o : WriteOffer) (window hwm : Nat) : Answer × Queue :=
  match o.cls with
  | .posted => q.offerPosted o window hwm
  | .ordered => q.offerOrdered o window hwm
  | .through => q.offerThrough o window hwm
  | .readOnly => (.noSlot, q)

/-- The run a take removes: CLOSED entries of the head's page from the head on (02 R43). -/
def runOf (page : Nat) : List Entry → List Entry
  | [] => []
  | e :: rest => if !e.isOpen && pageOfLine e.line == page then e :: runOf page rest else []

def Queue.run (q : Queue) : List Entry :=
  match q.entries with
  | [] => []
  | e :: rest => runOf (pageOfLine e.line) (e :: rest)

/-- The queue after the removal of its run. -/
def Queue.removeRun (q : Queue) : Queue := { q with entries := q.entries.drop q.run.length }

/-- The value of a byte in the youngest entry that holds it, OPEN or CLOSED (02 R44). -/
def Queue.lookup (q : Queue) (a : Nat) : Option Byte :=
  q.entries.reverse.findSome? fun e => if e.line = lineOf a then cellsGet e.bytes (a % Config.lineBytes) else none

/-- A port leaves the waiters of every entry (02 R33). -/
def Queue.dropWaiter (q : Queue) (p : Port) : Queue :=
  { q with entries := q.entries.map fun e => { e with waiters := e.waiters.remove p } }

end Sys2Proof.Machine
end

