-- ==== Sys2Proof/Machine/Reads.lean ====
section
/-! DEFINITION. Read service: the lookup (03 R49), the acceptance of a read (03 R48, R50, R51), the end of its wait
(03 R55) and the entry of a held-back fetch (03 R55). -/
namespace Sys2Proof.Machine

/-- A buffer's byte at an address: the buffer is not FREE, is of the byte's page and holds it valid (03 R49). -/
def PageBuffer.lookup (b : PageBuffer) (a : Nat) : Option Byte :=
  if b.state == .free || b.page != pageOf a then none else cellsGet b.bytes (a % Config.pageBytes)

/-- The younger buffer's byte before the older one's (03 R49). -/
def Drain.lookup (d : Drain) (a : Nat) : Option Byte :=
  if d.pb0.stamp < d.pb1.stamp then (d.pb1.lookup a).or (d.pb0.lookup a)
  else (d.pb0.lookup a).or (d.pb1.lookup a)

/-- The lookup of one byte: queue, younger buffer, older buffer (03 R49). -/
def State.lookup (s : State) (a : Nat) : Option Byte := (s.queue.lookup a).or (s.drain.lookup a)

/-- The fetch enters the list, or is held back while the port's orphaned fetch is in it (03 R51, R55). -/
def ReadService.enter (r : ReadService) (f : Fetch) : ReadService :=
  if r.fetches.any (fun g => g.port == f.port) then { r with heldBack := some f }
  else { r with fetches := r.fetches ++ [f] }

/-- The acceptance of a classified read (03 R48): complete with what the lookup found, a disabled lane taking fill
(03 R50), or a fetch for the missing lanes (03 R51). -/
def State.acceptRead (s : State) (p : Port) : State :=
  match (s.port p).access with
  | none => s
  | some acc =>
    let lo := if acc.lower then s.lookup (evenAddr acc.addr) else none
    let up := if acc.upper then s.lookup (evenAddr acc.addr + 1) else none
    let missLower := acc.lower && lo.isNone
    let missUpper := acc.upper && up.isNone
    if missLower || missUpper then
      (s.setReads (s.reads.enter
          { port := p, addr := acc.addr, needLower := missLower, needUpper := missUpper,
            capturedLower := lo, capturedUpper := up, order := s.now, state := .waiting, orphaned := false })).setPort p
        { s.port p with state := .fetchWait, waitStart := none }
    else
      s.completeNormal p (some (up.getD (globalsFillUpper s.active.globals) ++ lo.getD (globalsFillLower s.active.globals)))

/-- The port's read stops waiting (03 R55): its held-back fetch is dropped; a WAITING fetch is removed and an ON_LINK
one orphaned. -/
def ReadService.stopWaiting (r : ReadService) (p : Port) : ReadService :=
  if r.heldBack.any (fun f => f.port == p) then { r with heldBack := none }
  else
    { r with fetches := (r.fetches.filter fun f => !(f.port == p && f.state == .waiting)).map fun f =>
        if f.port == p then { f with orphaned := true } else f }

/-- The held-back fetch enters the list WAITING once its port's place is free (03 R55). -/
def ReadService.enterHeldBack (r : ReadService) : ReadService :=
  match r.heldBack with
  | none => r
  | some f =>
    if r.fetches.any (fun g => g.port == f.port) then r
    else { fetches := r.fetches ++ [f], heldBack := none }

def State.enterHeldBack (s : State) : State := s.setReads s.reads.enterHeldBack

end Sys2Proof.Machine
end

