-- ==== Sys2Proof/Machine/HostOps.lean ====
section
/-! DEFINITION. What a port does with its access: offering a write (01 R10, R13), handing on a read (01 R10, R14), serving
the pending writes (02 R41), acting on a change of mode (01 R16), the outcome of a THROUGH write (01 R17) and the end of
a wait by expiry or withdrawal (01 R5, R18). -/
namespace Sys2Proof.Machine

/-- The detail byte of a refusal, its reason in bits 1 to 0 (10 R203).  DESIGN CHOICE (log 33): bits 7 to 2 are 0. -/
def RefusalReason.code : RefusalReason → Byte
  | .unmapped => 0
  | .markerPage => 1
  | .notPermitted => 2
  | .readOnly => 3

/-- The write of a port as an offer: its line and the enabled bytes by offset (01 R2, 02 R27). -/
def Access.offer (acc : Access) (p : Port) (c : AccessClass) : WriteOffer :=
  let off := evenAddr acc.addr % Config.lineBytes
  { port := p
    line := lineOf (evenAddr acc.addr)
    bytes := (if acc.lower then [(off, acc.data.extractLsb' 0 8)] else [])
      ++ (if acc.upper then [(off + 1, acc.data.extractLsb' 8 8)] else [])
    cls := c }

/-- A write refused by classification completes with an error and a WRITE_REFUSED record (01 R10). -/
def State.refuseWrite (s : State) (p : Port) (r : RefusalReason) : State :=
  (s.completeError p).addFault
    { kind := .writeRefused, source := portSource p, epoch := s.control.epoch, address := some (s.port p).address,
      retained := some false, detail := r.code }

/-- A read refused by classification completes with an error and a READ_REFUSED record (01 R10). -/
def State.refuseRead (s : State) (p : Port) (r : RefusalReason) : State :=
  (s.completeError p).addFault
    { kind := .readRefused, source := portSource p, epoch := s.control.epoch, address := some (s.port p).address,
      detail := r.code }

/-- What an accepted write does to its port and the counters (01 R13, 02 R27, R46): THROUGH waits with its number,
POSTED and ORDERED complete. -/
def State.writeAccepted (s : State) (p : Port) (c : AccessClass) (merged : Bool) : State :=
  let s1 := if merged then s.countWriteAccepted.countMerge else s.countWriteAccepted
  if c == .through then
    s1.setPort p { s1.port p with state := .throughWait, waitStart := none, seq := some s1.queue.counter }
  else s1.completeNormal p none

/-- The write needs a slot and none is free: SLOT_WAIT, keeping an earlier wait start (01 R13). -/
def State.waitForSlot (s : State) (p : Port) : State :=
  s.setPort p { s.port p with state := .slotWait, waitStart := some ((s.port p).waitStart.getD s.now) }

/-- The port's write is classified against the active set and offered to the queue (01 R13, R15). -/
def State.offerWrite (s : State) (p : Port) : State :=
  match (s.port p).access with
  | none => s
  | some acc =>
    match s.classify p true (evenAddr acc.addr) with
    | .refused r => s.refuseWrite p r
    | .classed c =>
      match s.queue.offer (acc.offer p c) s.coalesceWindow s.hwm with
      | (.merged, q) => (s.setQueue q).writeAccepted p c true
      | (.allocated, q) => (s.setQueue q).writeAccepted p c false
      | (.noSlot, _) => s.waitForSlot p

/-- The port's read is classified and handed to read service (01 R14). -/
def State.handRead (s : State) (p : Port) : State :=
  match (s.port p).access with
  | none => s
  | some acc =>
    match s.classify p false (evenAddr acc.addr) with
    | .refused r => s.refuseRead p r
    | .classed _ => s.acceptRead p

/-- A pending write of the port is offered. -/
def State.offerPending (s : State) (p : Port) : State :=
  if (s.port p).pendingWrite then s.offerWrite p else s

/-- Port B's pending write waits since an earlier moment than port A's (02 R41: A first when they are the same). -/
def State.servesBFirst (s : State) : Bool :=
  match (s.port .A).waitStart, (s.port .B).waitStart with
  | some wa, some wb => decide (wb < wa)
  | _, _ => false

/-- The slot arbiter offers each pending write once, the earlier wait start first (02 R41). -/
def State.servePending (s : State) : State :=
  if s.servesBFirst then (s.offerPending .B).offerPending .A else (s.offerPending .A).offerPending .B

/-- A read held in MODE_STALL is classified and handed on (01 R16). -/
def State.releaseRead (s : State) (p : Port) : State :=
  if (s.port p).stalledRead then s.handRead p else s

/-- A pending write ends with an error and PF_REFUSED counts (01 R16). -/
def State.refusePending (s : State) (p : Port) : State :=
  if (s.port p).pendingWrite then (s.completeError p).countPfRefused else s

/-- Every access held for the mode ends with an error, uncounted (01 R16, STARTING to FAILED). -/
def State.failStalled (s : State) (p : Port) : State :=
  if (s.port p).pendingWrite || (s.port p).stalledRead then s.completeError p else s

/-- What a change of mode does to the waiting accesses; the state already holds the new mode (01 R16).  The reads go to read
service before the writes are offered; of two reads that both ports hold, the manual names no order, and DESIGN CHOICE (log
31): port A's is handed on first, so that of two READ_REFUSED records port A's is the earlier (09 R174). -/
def State.portsOnMode (s : State) (old new : Mode) : State :=
  match old, new with
  | .starting, .running => ((s.releaseRead .A).releaseRead .B).servePending
  | .starting, .failed => (s.failStalled .A).failStalled .B
  | .starting, .pfDone => (((s.refusePending .A).refusePending .B).releaseRead .A).releaseRead .B
  | .applying, .running => s.servePending
  | .running, .pfDrain => (s.refusePending .A).refusePending .B
  | .applying, .pfDrain => (s.refusePending .A).refusePending .B
  | _, _ => s

/-- The outcome of the program that carries a THROUGH write reaches its port (01 R17). -/
def State.throughOutcome (s : State) (p : Port) (success : Bool) : State :=
  if (s.port p).state == .throughWait then
    if success then s.completeNormal p none else s.completeError p
  else s

/-- Every waiter of a buffer is told the outcome (04 R81, R84). -/
def State.tellWaiters (s : State) (w : PortSet) (success : Bool) : State :=
  let s1 := if w.a then s.throughOutcome .A success else s
  if w.b then s1.throughOutcome .B success else s1

/-- A port leaves the waiters of the entry or buffer that carries its write (02 R33, 04 R87). -/
def PageBuffer.dropWaiter (b : PageBuffer) (p : Port) : PageBuffer := { b with waiters := b.waiters.remove p }

def State.dropWaiter (s : State) (p : Port) : State :=
  (s.setQueue (s.queue.dropWaiter p)).setDrain
    { s.drain with pb0 := s.drain.pb0.dropWaiter p, pb1 := s.drain.pb1.dropWaiter p }

/-- The kind of wait, in bits 2 to 0 of the detail byte of STALL_EXPIRED (10 R203). -/
def PortRec.waitCode (r : PortRec) : Byte :=
  match r.state with
  | .modeStall => if r.writes then 1 else 0
  | .slotWait => 2
  | .fetchWait => 3
  | .throughWait => 4
  | .idle | .ending => 0

/-- The STALL_EXPIRED record of the wait as it stands (01 R18, 09 R175, R176).  DESIGN CHOICE (log 33): bits 6 to 3 of its
detail byte are 0. -/
def State.stallRecord (s : State) (p : Port) (withdrawn : Bool) : FaultRecord :=
  let r := s.port p
  { kind := .stallExpired
    source := portSource p
    epoch := s.control.epoch
    address := some r.address
    seq := if r.state == .throughWait then r.seq else none
    retained := if r.writes then some (r.state == .throughWait) else none
    detail := r.waitCode ||| cond withdrawn 0x80 0 }

/-- What the other blocks do when the wait ends: a fetch is removed or orphaned, a THROUGH port leaves the waiters (01 R18). -/
def State.leaveWait (s : State) (p : Port) : State :=
  match (s.port p).state with
  | .fetchWait => s.setReads (s.reads.stopWaiting p)
  | .throughWait => s.dropWaiter p
  | .idle | .modeStall | .slotWait | .ending => s

/-- The end of a wait by expiry (01 R18): error completion, STALL_EXPIRED and STALL_EXPIRIES. -/
def State.expireWait (s : State) (p : Port) : State :=
  (((s.leaveWait p).completeError p).addFault (s.stallRecord p false)).countStall

/-- The end of a wait by withdrawal (01 R5): the same record and count, and the port passes directly to IDLE. -/
def State.withdrawWait (s : State) (p : Port) : State :=
  (((s.leaveWait p).setPort p {}).addFault (s.stallRecord p true)).countStall

end Sys2Proof.Machine
end

