-- ==== Sys2Proof/Machine/Flush.lean ====
section
/-! DEFINITION. The judgement of a FLUSH (07 R145, R146, R147) and the count of at-risk lines (08 R167). -/
namespace Sys2Proof.Machine

/-- A queue entry carries bytes of writes at or before the mark (07 R145). -/
def State.entryJudged (s : State) (e : Entry) : Bool := seqAtOrBefore s.queue.counter e.firstSeq s.control.flushMark
/-- A page buffer that is not FREE carries bytes of writes at or before the mark (07 R145). -/
def State.bufJudged (s : State) (b : PageBuffer) : Bool :=
  b.state != .free && seqAtOrBefore s.queue.counter b.firstSeq s.control.flushMark

/-- Something in the part is judged so. -/
def State.flushRemains (s : State) : Bool :=
  s.queue.entries.any s.entryJudged || s.bufJudged s.drain.pb0 || s.bufJudged s.drain.pb1

/-- The distinct lines carried by the entries and buffers so judged, 0 to 40 (07 R146). -/
def State.flushLines (s : State) : Nat :=
  (distinct ((s.queue.entries.filter s.entryJudged).map (·.line)
    ++ (if s.bufJudged s.drain.pb0 then s.drain.pb0.lines else [])
    ++ (if s.bufJudged s.drain.pb1 then s.drain.pb1.lines else []))).length

/-- A judged buffer is HELD and no queue entry and no working other buffer carries its page; a buffer that is not judged
does not count (07 R146, held remainder). -/
def State.heldForGood (s : State) (b : Buf) : Bool :=
  let x := s.buf b
  let y := s.buf b.other
  !s.bufJudged x
    || (x.state == .held && s.queue.entries.all (fun e => pageOfLine e.line != x.page)
        && !((y.state == .filled || y.state.inProgram) && y.page == x.page))

/-- Bytes at or before the mark remain and the drain can make no further progress on them (07 R146). -/
def State.flushBlocked (s : State) : Bool :=
  s.flushRemains
    && (s.halted || (!(s.queue.entries.any s.entryJudged) && s.heldForGood .pb0 && s.heldForGood .pb1))

/-- The result data of a FLUSH: mark and lines (10 R204). -/
def State.flushData (s : State) (lines : Nat) : List Byte := be24 s.control.flushMark ++ [BitVec.ofNat 8 lines]

/-- The FLUSH in the slot is judged on the state as it stands (07 R145, R146).  DESIGN CHOICE (log 34): its completion leaves
the flush mark and the discard flag as they are, until the next FLUSH is accepted. -/
def State.judgeFlush (s : State) : State :=
  if s.maint.slot != .flush then s
  else if !s.flushRemains then
    s.completeLong (if s.control.flushDiscard then .blockedHeld else .ok) (s.flushData 0)
  else if s.flushBlocked then s.completeLong .blockedHeld (s.flushData s.flushLines)
  else s

/-- The grant of the PF_DRAIN marker write ends a FLUSH for which something is still judged (07 R147); the mark and the flag
stay (log 34). -/
def State.truncateFlush (s : State) : State :=
  if s.maint.slot == .flush && s.flushRemains then
    s.completeLong (if s.flushBlocked then .blockedHeld else .truncated) (s.flushData s.flushLines)
  else s

/-- The distinct lines of queue entries and buffers, 0 to 40 (08 R167). -/
def State.atRiskLines (s : State) : Nat :=
  (distinct (s.queue.entries.map (·.line) ++ s.drain.pb0.lines ++ s.drain.pb1.lines)).length

/-- The first_seq of every queue entry and of every buffer that is not FREE. -/
def State.retainedSeqs (s : State) : List Seq :=
  s.queue.entries.map (·.firstSeq)
    ++ (if s.drain.pb0.state == .free then [] else [s.drain.pb0.firstSeq])
    ++ (if s.drain.pb1.state == .free then [] else [s.drain.pb1.firstSeq])

/-- The queue is empty and both buffers are FREE (07 R140, 08 R167). -/
def State.nothingRetained (s : State) : Bool :=
  s.queue.entries.isEmpty && s.drain.pb0.state == .free && s.drain.pb1.state == .free

end Sys2Proof.Machine
end

