-- ==== Sys2Proof/Machine/Modes.lean ====
section
/-! DEFINITION. Changes of the bridge mode (08 R149) and what each does: entry to PF_DRAIN (08 R161), the completion and
the aborts of an APPLY (07 R140 to R142), a failed start-up (08 R158), and the PF_DRAIN marker condition (08 R166). -/
namespace Sys2Proof.Machine

/-- The control request that a mode begins with: PROBE opens the start-up sequence (08 R151) and RESUMING writes its
marker (08 R171). -/
def Mode.firstRequest : Mode → Option CtrlReq
  | .starting => some .probe
  | .resuming => some .markerWrite
  | .running | .applying | .pfDrain | .pfDone | .failed => none

/-- The control block takes the new mode: a waiting control request of the old mode is withdrawn, the pending stops are
cleared, and PF_DONE remembers whether it came from STARTING or FAILED (08 R149, R159, R162). -/
def Control.enter (c : Control) (new : Mode) : Control :=
  { c with
    mode := new
    stopPending := false
    resumePending := false
    fromStarting := new == .pfDone && (c.mode == .starting || c.mode == .failed)
    request := new.firstRequest }

/-- A change of mode is handed to the ports in the same event (08 R149, 01 R16). -/
def State.changeMode (s : State) (new : Mode) : State :=
  (s.setControl (s.control.enter new)).portsOnMode s.control.mode new

/-- The detail code of a failure reason (10 R200). -/
def FailReason.code : FailReason → Byte
  | .statusFail => 0
  | .verifyMismatch => 1
  | .timeout => 2

/-- The kind of a failed start-up (08 R158, 10 R203). -/
inductive StartupReason where
  | noResponse
  | busyStuck
  | markerWrite (last : FailReason)
deriving DecidableEq, Repr

/-- The detail byte of STARTUP_FAILED (10 R203).  DESIGN CHOICE (log 33): bits 7 to 5 and bit 2 are 0, and so are bits 4 to 3
without a marker write. -/
def StartupReason.code : StartupReason → Byte
  | .noResponse => 0
  | .busyStuck => 1
  | .markerWrite last => 2 ||| (last.code <<< 3)

/-- STARTUP_FAILED is recorded and the mode becomes FAILED (08 R158). -/
def State.startupFailed (s : State) (r : StartupReason) : State :=
  (s.addFault
      { kind := .startupFailed, source := .control, epoch := s.control.epoch,
        page := match r with
          | .markerWrite _ => some s.markerPage
          | .noResponse | .busyStuck => none,
        detail := r.code }).changeMode .failed

/-- MARKER_FAILED with the attempts made and the reason (08 R168, R171; 10 R203).  DESIGN CHOICE (log 33): bits 7 to 5 of its
detail byte are 0. -/
def State.markerFailed (s : State) (r : FailReason) : State :=
  s.addFault
    { kind := .markerFailed, source := .control, epoch := s.control.epoch, page := some s.markerPage,
      detail := BitVec.ofNat 8 s.control.marker.attempts ||| (r.code <<< 3) }

/-- An APPLY in progress ends with ABORTED_PFAIL and the unchanged epoch (07 R142). -/
def State.abortApplyPfail (s : State) : State :=
  if s.control.mode == .applying then s.completeLong .abortedPfail [s.control.epoch] else s

/-- A direct request that waits leaves the arbiter with ABORTED_PFAIL (05 R111). -/
def State.abortDirect (s : State) : State :=
  if s.maint.direct.waiting then
    (s.setMaint { s.maint with direct := { s.maint.direct with waiting := false } }).completeLong .abortedPfail []
  else s

/-- Entry to PF_DRAIN (08 R161, R164; 07 R142): the OPEN entries close, the budget is set, an APPLY and a waiting direct
request are aborted, the ports refuse their pending writes, and no attempt already started is chargeable (08 R165). -/
def State.enterPfDrain (s : State) : State :=
  let s1 := s.setQueue s.queue.closeAll
  let s2 := s1.setControl { s1.control with budget := s1.holdUpBudget }
  let s3 := s2.setDrain { s2.drain with chargeable := false }
  (s3.abortApplyPfail.abortDirect).changeMode .pfDrain

/-- The completion of an APPLY with OK, in the order of 07 R140. -/
def State.completeApply (s : State) : State :=
  let s1 := s.setActive s.shadow
  let s2 := s1.setControl { s1.control with epoch := s1.control.epoch + 1 }
  (s2.completeLong .ok [s2.control.epoch]).changeMode .running

/-- An APPLY completes once nothing is retained (07 R140). -/
def State.judgeApply (s : State) : State :=
  if s.control.mode == .applying && s.nothingRetained then s.completeApply else s

/-- A buffer that goes HELD overtakes the APPLY (07 R141). -/
def State.abortApplyHeld (s : State) : State :=
  if s.control.mode == .applying then (s.completeLong .abortedHeld [s.control.epoch]).changeMode .running else s

/-- The drain is finished: no buffer is FILLED or in a program operation, and no take can be made because the queue is
empty, the drain is HALTED or no buffer is FREE (08 R166). -/
def State.drainFinished (s : State) : Bool :=
  let busy (b : PageBuffer) : Bool := b.state == .filled || b.state.inProgram
  !busy s.drain.pb0 && !busy s.drain.pb1
    && (s.queue.entries.isEmpty || s.halted || !(s.drain.pb0.state == .free || s.drain.pb1.state == .free))

/-- In PF_DRAIN the marker write is requested exactly while one of the two conditions holds (08 R166). -/
def State.requestMarker (s : State) : State :=
  if s.control.mode == .pfDrain then
    s.setControl { s.control with
      request := if (s.drainFinished || s.control.budget == 1) && s.link.holder != some .markerWrite
        then some .markerWrite else none }
  else s

end Sys2Proof.Machine
end

