-- ==== Sys2Proof/Machine/Records.lean ====
section
/-! DEFINITION. The record layouts that a bus partner sees (10 R199 to R205). -/
namespace Sys2Proof.Machine

/-! ### Codes (10 R199, R200) -/

def respOk : Byte := 0x00
def respBusy : Byte := 0x01
def respUnread : Byte := 0x02
def respRefusedMode : Byte := 0x03
def respRefusedHeld : Byte := 0x04
def respInvalid : Byte := 0x05
def respUnknown : Byte := 0x06
def respProtected : Byte := 0x07
def respNoHeld : Byte := 0x08
def respNonePending : Byte := 0x09

def Mode.code : Mode → Byte
  | .starting => 0
  | .running => 1
  | .applying => 2
  | .pfDrain => 3
  | .pfDone => 4
  | .resuming => 5
  | .failed => 6

def BufState.code : BufState → Byte
  | .free => 0
  | .filled => 1
  | .gapRead => 2
  | .programming => 3
  | .verifying => 4
  | .held => 5

def LongKind.code : LongKind → Byte
  | .idle => 0
  | .apply => 1
  | .flush => 2
  | .directId => 3
  | .directStatus => 4
  | .directRead => 5
  | .directWrite => 6

def Completion.code : Completion → Byte
  | .ok => 0
  | .conflict => 1
  | .timedOut => 2
  | .memFail => 3
  | .abortedPfail => 4
  | .abortedHeld => 5
  | .blockedHeld => 6
  | .truncated => 7

def MarkerClass.code : MarkerClass → Byte
  | .noReport => 0
  | .blank => 1
  | .clean => 2
  | .truncated => 3
  | .unclean => 4

def FaultKind.code : FaultKind → Byte
  | .writeRefused => 1
  | .readRefused => 2
  | .stallExpired => 3
  | .programFailed => 4
  | .drainHalted => 5
  | .heldSuperseded => 6
  | .heldReleased => 7
  | .previousLoss => 8
  | .startupFailed => 9
  | .markerFailed => 10

def FaultSource.code : FaultSource → Byte
  | .portA => 0
  | .portB => 1
  | .drain => 2
  | .control => 3
  | .maint => 4

/-- The detail byte of DRAIN_HALTED and HELD_SUPERSEDED, the buffer in bit 0 (10 R203).  DESIGN CHOICE (log 33): bits 7 to 1
are 0. -/
def Buf.code : Buf → Byte
  | .pb0 => 0
  | .pb1 => 1

/-- A byte with the given bit set or clear. -/
def flag (b : Bool) (i : Nat) : Byte := (cond b 1 0 : Byte) <<< i

/-! ### STATUS record (10 R195, R201), 15 bytes -/

/-- The bytes of the STATUS record.  DESIGN CHOICE (log 33): bits 7, 3 and 2 of byte 9 are 0. -/
def State.statusRecord (s : State) : List Byte :=
  [ s.control.mode.code,
    flag s.halted 0 ||| flag s.maint.ready 1 ||| flag s.control.filtered 2 ||| flag (s.stalled .A) 3
      ||| flag (s.stalled .B) 4,
    BitVec.ofNat 8 s.queue.occupancy,
    BitVec.ofNat 8 s.queue.openCount,
    s.drain.pb0.state.code ||| (s.drain.pb1.state.code <<< 4) ]
  ++ be16 (BitVec.ofNat 16 s.drain.pb0.page)
  ++ be16 (BitVec.ofNat 16 s.drain.pb1.page)
  ++ [ BitVec.ofNat 8 s.reads.fetches.length ||| (s.maint.slot.code <<< 4),
       BitVec.ofNat 8 s.faults.list.length,
       s.faults.overflow,
       s.control.epoch,
       s.maint.frameErrors,
       BitVec.ofNat 8 s.control.budget ]

/-! ### Fault record (10 R203), 13 bytes -/

/-- The bytes of a fault record.  DESIGN CHOICE (log 33): bit 3 of byte 1 and bits 7 to 1 of byte 2 are 0. -/
def FaultRecord.encode (r : FaultRecord) : List Byte :=
  [ r.kind.code,
    r.source.code ||| flag r.address.isSome 4 ||| flag r.seq.isSome 5 ||| flag r.page.isSome 6
      ||| flag r.retained.isSome 7,
    flag (r.retained.getD false) 0,
    r.epoch ]
  ++ be24 (r.address.getD 0) ++ be24 (r.seq.getD 0) ++ be16 (BitVec.ofNat 16 (r.page.getD 0)) ++ [r.detail]

/-! ### Result record (10 R204), 34 bytes -/

def ResultRecord.encode (r : ResultRecord) : List Byte :=
  [r.kind.code, r.code.code] ++ (r.data ++ List.replicate 32 0).take 32

/-! ### Marker report, 11 bytes, and marker record, 16 bytes (10 R205) -/

def MarkerReport.encode (r : MarkerReport) : List Byte :=
  [r.previous.code] ++ be16 r.bootCount ++ [r.atRisk] ++ be24 r.firstSeq ++ be24 r.lastSeq ++ [r.epoch]

def MarkerState.code : MarkerState → Byte
  | .running => 0x01
  | .clean => 0x02
  | .truncated => 0x03

/-- The sum of bytes modulo 256. -/
def byteSum (bs : List Byte) : Byte := bs.foldl (· + ·) 0

def markerSignature : List Byte := [0xA5, 0x5A, 0xC3, 0x3C]

/-- Bytes 0 to 14 of the marker record. -/
def MarkerRecord.body (r : MarkerRecord) : List Byte :=
  markerSignature ++ [r.state.code] ++ be16 r.bootCount ++ [r.atRisk] ++ be24 r.firstSeq ++ be24 r.lastSeq ++ [r.epoch]

/-- The marker record with its check byte, which makes the sum 0 modulo 256 (08 R150, 10 R197). -/
def MarkerRecord.encode (r : MarkerRecord) : List Byte := r.body ++ [0 - byteSum r.body]

/-- The state a marker record's state code names (10 R205). -/
def markerStateOf (code : Byte) : Option MarkerState :=
  if code = 0x01 then some .running else if code = 0x02 then some .clean else if code = 0x03 then some .truncated else none

/-- The record as read (08 R154): none for BLANK, where the signature or the check byte is wrong, the state code names
no state, or the at-risk count is above 40. -/
def decodeMarker (bs : List Byte) : Option MarkerRecord :=
  let at' (i : Nat) : Byte := bs.getD i 0
  if bs.take 4 = markerSignature && byteSum bs = 0 && decide ((at' 7).toNat ≤ Config.maxAtRisk) then
    (markerStateOf (at' 4)).map fun st =>
      { state := st, bootCount := at' 5 ++ at' 6, atRisk := at' 7, firstSeq := at' 8 ++ at' 9 ++ at' 10,
        lastSeq := at' 11 ++ at' 12 ++ at' 13, epoch := at' 14 }
  else none

/-- The classification of a valid record (08 R154). -/
def MarkerState.classification : MarkerState → MarkerClass
  | .running => .unclean
  | .clean => .clean
  | .truncated => .truncated

/-- The marker report of a record as read (08 R155). -/
def reportOf : Option MarkerRecord → MarkerReport
  | none => { previous := .blank }
  | some r =>
    { previous := r.state.classification, bootCount := r.bootCount, atRisk := r.atRisk, firstSeq := r.firstSeq,
      lastSeq := r.lastSeq, epoch := r.epoch }

/-! ### Counters (09 R181, R182), 24 bytes -/

def Counters.encode (c : Counters) : List Byte :=
  be32 c.writesAccepted ++ be32 c.merges ++ be32 c.pageWrites ++ be32 c.programRetries ++ be32 c.stallExpiries
    ++ be32 c.pfRefused

/-- The byte the part sends as byte `i` of a frame with `n` argument bytes: 0xFF up to the command, then the response,
then 0xFF (10 R187). -/
def sdoByte (n : Nat) (response : List Byte) (i : Nat) : Byte :=
  if i ≤ n then 0xFF else response.getD (i - (n + 1)) 0xFF

end Sys2Proof.Machine
end

