-- ==== Sys2Proof/Machine/Sequencer.lean ====
section
/-! DEFINITION. The memory link sequencer: issuing a memory operation, the pin check (05 R109), the start of attempts and
runs (04 R77, 05 R102, 06 R124), and the release of the link (05 R97). -/
namespace Sys2Proof.Machine

/-- A memory operation is issued: on the wire at once, or behind the one that is still on it (05 R97; log 13). -/
def Link.issue (l : Link) (op : MemOp) : Link :=
  if l.wire.isNone then { l with wire := some op } else { l with queued := some op }

def State.issue (s : State) (op : MemOp) : State := s.setLink (s.link.issue op)

/-- The owner stops waiting for the operation on the wire; nothing waits behind it (05 R99, R101, R153; log 13). -/
def Link.abandon (l : Link) : Link := { l with stale := l.wire.isSome, queued := none }

/-- The link operation completes and the link is FREE (05 R97). -/
def Link.release (l : Link) : Link :=
  { l with holder := none, pollWait := false, pinWait := false, settling := false, programTimer := none, settleTimer := false }

def State.releaseLink (s : State) : State := s.setLink s.link.release

/-- The memory operation on the wire has completed (05 R94). -/
def Link.wireDone (l : Link) : Link := { l with wire := none }

/-- The page that the holder's page write goes to (05 R109). -/
def State.holderPage (s : State) : Option Nat :=
  match s.link.holder with
  | some (.program b) => some (s.buf b).page
  | some .markerWrite => some s.markerPage
  | some .directWrite => some (pageOfLine s.maint.direct.line.toNat)
  | _ => none

/-- The pin check before a WRITE-ENABLE: it is issued, or the operation enters a pin wait (05 R109). -/
def State.enableOrPin (s : State) : State :=
  match s.holderPage with
  | none => s
  | some page =>
    if s.pinned page then s.setLink { s.link with pinWait := true }
    else s.issue .writeEnable

/-- An attempt settles first: its program timer starts at its first READ-STATUS (05 R102). -/
def Link.settleAttempt (l : Link) (timeout : Nat) : Link :=
  { l.issue .readStatus with settling := true, programTimer := if l.wire.isNone then some timeout else l.programTimer }

/-- An attempt begins: WRITE-ENABLE after the pin check, or settling first while the memory is UNSETTLED (05 R102). -/
def State.beginAttempt (s : State) : State :=
  if s.link.quiet then s.enableOrPin else s.setLink (s.link.settleAttempt s.programTimeout)

/-- A program attempt of a buffer starts (04 R77): attempts advance, the buffer is PROGRAMMING, and in PF_DRAIN the
attempt's page write will be charged (08 R165). -/
def State.startProgramAttempt (s : State) (b : Buf) : State :=
  let x := s.buf b
  let s1 := s.setBuf b { x with state := .programming, attempts := x.attempts + 1 }
  (s1.setDrain { s1.drain with chargeable := s.control.mode == .pfDrain }).beginAttempt

/-- A marker write attempt starts (08 R156). -/
def State.startMarkerAttempt (s : State) : State :=
  (s.setControl { s.control with marker := { s.control.marker with attempts := s.control.marker.attempts + 1 } }).beginAttempt

/-- The run of the DIRECT-WRITE that comes next: its first offset and its length (06 R124). -/
def Direct.nextRun (d : Direct) : Option (Nat × Nat) := (directRuns d.flags)[d.written]?

/-- The address and bytes of the page write that the holder issues next (04 R73, 06 R124, 08 R150). -/
def State.holderWrite (s : State) : Option (Nat × List Byte) :=
  match s.link.holder with
  | some (.program b) => some ((s.buf b).spanAddr, (s.buf b).spanBytes)
  | some .markerWrite => some (s.markerAddr, s.control.marker.record.encode)
  | some .directWrite =>
    s.maint.direct.nextRun.map fun r =>
      (s.maint.direct.line.toNat * Config.lineBytes + r.1, (s.maint.direct.data.drop r.1).take r.2)
  | _ => none

/-- The charge of a page write in the event that issues it (08 R165): in PF_DRAIN, a drain attempt that started in the
present PF_DRAIN, and the marker write. -/
def State.chargePageWrite (s : State) : State :=
  let charged := s.control.mode == .pfDrain &&
    (match s.link.holder with
      | some (.program _) => s.drain.chargeable
      | some .markerWrite => true
      | _ => false)
  if charged then s.setControl { s.control with budget := s.control.budget - 1 } else s

/-- A DIRECT-WRITE run is issued with its page write (06 R124). -/
def State.countRunIssued (s : State) : State :=
  if s.link.holder == some .directWrite then
    s.setMaint { s.maint with direct := { s.maint.direct with issued := s.maint.direct.issued + 1 } }
  else s

end Sys2Proof.Machine
end

