-- ==== Sys2Proof/Machine/Programs.lean ====
section
/-! DEFINITION. The ends of a drain program attempt: success and superseding (04 R81, R82), failure with retry,
suspension or final failure (04 R79, R80, R83, R84, R85). -/
namespace Sys2Proof.Machine

/-- Superseding clears the held partner's bytes inside the successful span; an emptied partner becomes FREE, its waiters
complete normally and HELD_SUPERSEDED is recorded (04 R82). -/
def State.supersede (s : State) (b : Buf) : State :=
  match s.drain.partner with
  | none => s
  | some o =>
    let x := s.buf b
    let y := s.buf o
    let left := cellsOutside y.bytes (cellsFirst x.bytes) (cellsLast x.bytes)
    if left.isEmpty then
      ((s.setBuf o .freed).tellWaiters y.waiters true).addFault
        { kind := .heldSuperseded, source := .drain, epoch := s.control.epoch, page := some y.page,
          retained := some false, detail := o.code }
    else s.setBuf o { y with bytes := left }

/-- The program operation completes: the mark is dropped and the link is released (04 R81, R84, R80). -/
def State.endProgram (s : State) : State :=
  (s.setDrain { s.drain with partner := none }).releaseLink

/-- Success of the program operation (04 R81); an APPLY may complete in the same event (07 R140). -/
def State.programSuccess (s : State) (b : Buf) : State :=
  let told := s.countPageWrite.tellWaiters (s.buf b).waiters true
  (((told.supersede b).setBuf b .freed).endProgram).judgeApply

/-- The detail byte of PROGRAM_FAILED (10 R203).  DESIGN CHOICE (log 33): bit 5 is 0. -/
def PageBuffer.failDetail (x : PageBuffer) (r : FailReason) : Byte :=
  BitVec.ofNat 8 x.attempts ||| (r.code <<< 3) ||| cond x.waiters.a 0x40 0 ||| cond x.waiters.b 0x80 0

/-- Final failure: HELD, PROGRAM_FAILED, the waiters end with an error, the link is released, HALTED may be entered
(04 R84, R85) and an APPLY is overtaken (07 R141). -/
def State.finalFailure (s : State) (b : Buf) (r : FailReason) : State :=
  let x := s.buf b
  let s1 := (s.setBuf b { x with state := .held, waiters := {} }).addFault
    { kind := .programFailed, source := .drain, epoch := s.control.epoch, page := some x.page,
      seq := some x.firstSeq, retained := some true, detail := x.failDetail r }
  let s2 := (s1.tellWaiters x.waiters false).endProgram
  let s3 := if s2.halted then
      s2.addFault
        { kind := .drainHalted, source := .drain, epoch := s.control.epoch, page := some x.page, detail := b.code }
    else s2
  s3.abortApplyHeld

/-- Suspension under the budget: FILLED again with everything kept (04 R80). -/
def State.suspend (s : State) (b : Buf) : State :=
  (s.setBuf b { s.buf b with state := .filled, retried := true }).endProgram

/-- A failed attempt: counted, its reason kept, then one of the three courses of 04 R83. -/
def State.attemptFailed (s : State) (b : Buf) (r : FailReason) : State :=
  let s1 := s.countRetry.setBuf b { s.buf b with failure := some r }
  if s1.retryLimit ≤ (s1.buf b).attempts then s1.finalFailure b r
  else if s1.control.mode == .pfDrain && decide (s1.control.budget < Config.drainBudget) then s1.suspend b
  else s1.startProgramAttempt b

/-- A drain attempt whose polling ended with BUSY 0 (04 R78, R79). -/
def State.judgeProgram (s : State) (b : Buf) (st : Byte) : State :=
  if statusWriteFail st then s.attemptFailed b .statusFail
  else if s.verify then
    let x := s.buf b
    (s.setBuf b { x with state := .verifying }).issue (.readData x.spanAddr x.spanLen)
  else s.programSuccess b

end Sys2Proof.Machine
end

