-- ==== Sys2Proof/Machine/Marker.lean ====
section
/-! DEFINITION. The shutdown marker: the record fixed at a grant (08 R156, R167, R171), the ends of a marker write (08
R157, R168, R171), and the steps of the start-up sequence (08 R151, R162). -/
namespace Sys2Proof.Machine

/-- The start-up record: RUNNING, the previous boot count plus one; a BLANK report counts from 0 (08 R156). -/
def State.startupRecord (s : State) : MarkerRecord :=
  { state := .running, bootCount := s.control.report.bootCount + 1, epoch := s.control.epoch }

/-- The PF_DRAIN record, from what the part retains (08 R167). -/
def State.drainRecord (s : State) : MarkerRecord :=
  { state := if s.nothingRetained then .clean else .truncated
    bootCount := s.control.bootCount
    atRisk := BitVec.ofNat 8 s.atRiskLines
    firstSeq := match s.retainedSeqs with
      | [] => 0
      | x :: rest => seqEarliest s.queue.counter x rest
    lastSeq := s.queue.counter
    epoch := s.control.epoch }

/-- The RESUMING record: RUNNING with the boot count unchanged (08 R171). -/
def State.resumeRecord (s : State) : MarkerRecord :=
  { state := .running, bootCount := s.control.bootCount, epoch := s.control.epoch }

/-- The record of the marker write that the mode makes. -/
def State.markerRecord (s : State) : MarkerRecord :=
  match s.control.mode with
  | .pfDrain => s.drainRecord
  | .resuming => s.resumeRecord
  | .starting | .running | .applying | .pfDone | .failed => s.startupRecord

/-- The grant of a marker write: the record and the boot count are fixed, a FLUSH is truncated in PF_DRAIN (07 R147),
and the first attempt starts. -/
def State.grantMarkerWrite (s : State) : State :=
  let rec' := s.markerRecord
  let s1 := s.setControl { s.control with
    marker := { record := rec' }, bootCount := rec'.bootCount }
  (if s.control.mode == .pfDrain then s1.truncateFlush else s1).startMarkerAttempt

/-- A step of the start-up sequence has ended well: a pending stop makes the mode PF_DONE, and otherwise the sequence
goes on with its next request (08 R151, R162). -/
def State.startupNext (s : State) (next : CtrlReq) : State :=
  if s.control.stopPending then s.changeMode .pfDone
  else s.setControl { s.control with request := some next }

/-- The start-up marker write succeeded: RUNNING, or PF_DONE with a stop pending (08 R157, R162). -/
def State.startupDone (s : State) : State :=
  s.changeMode (if s.control.stopPending then .pfDone else .running)

/-- The PF_DRAIN marker write ended: PF_DONE, or RESUMING with a resume pending (08 R168, R170). -/
def State.drainMarkerDone (s : State) : State :=
  s.changeMode (if s.control.resumePending then .resuming else .pfDone)

/-- The RESUMING marker write ended: RUNNING, or PF_DRAIN after a reassertion (08 R164, R171; log 15). -/
def State.resumeMarkerDone (s : State) : State :=
  if s.control.filtered then s.enterPfDrain else s.changeMode .running

/-- Success of a marker write. -/
def State.markerSuccess (s : State) : State :=
  let s1 := s.releaseLink
  match s.control.mode with
  | .starting => s1.startupDone
  | .pfDrain => s1.drainMarkerDone
  | .resuming => s1.resumeMarkerDone
  | .running | .applying | .pfDone | .failed => s1

/-- Final failure of a marker write. -/
def State.markerGivenUp (s : State) (r : FailReason) : State :=
  let s1 := s.releaseLink
  match s.control.mode with
  | .starting => s1.startupFailed (.markerWrite r)
  | .pfDrain => (s1.markerFailed r).drainMarkerDone
  | .resuming => (s1.markerFailed r).resumeMarkerDone
  | .running | .applying | .pfDone | .failed => s1

/-- A failed marker attempt: the PF_DRAIN write makes one attempt (08 R168), the others retry up to the limit (08 R156, R171). -/
def State.markerAttemptFailed (s : State) (r : FailReason) : State :=
  let s1 := s.setControl { s.control with marker := { s.control.marker with failure := some r } }
  if s1.control.mode == .pfDrain || decide (s1.retryLimit ≤ s1.control.marker.attempts) then s1.markerGivenUp r
  else s1.startMarkerAttempt

/-- A marker attempt whose polling ended with BUSY 0 (08 R156). -/
def State.judgeMarker (s : State) (st : Byte) : State :=
  if statusWriteFail st then s.markerAttemptFailed .statusFail
  else if s.verify then s.issue (.readData s.markerAddr Config.markerBytes)
  else s.markerSuccess

/-! ### Direct operations (06 R124, 10 R192) -/

/-- The result data of a DIRECT-WRITE: runs issued and runs written (10 R204). -/
def Direct.runData (d : Direct) : List Byte := [BitVec.ofNat 8 d.issued, BitVec.ofNat 8 d.written]

/-- A granted direct operation completes: the link is FREE and the result is placed (05 R97, 10 R192). -/
def State.endDirect (s : State) (code : Completion) (data : List Byte) : State :=
  s.releaseLink.completeLong code data

/-- A DIRECT-WRITE run whose polling ended with BUSY 0 (06 R124). -/
def State.judgeRun (s : State) (st : Byte) : State :=
  if statusWriteFail st then s.endDirect .memFail s.maint.direct.runData
  else
    let s1 := s.setMaint { s.maint with direct := { s.maint.direct with written := s.maint.direct.written + 1 } }
    if s1.maint.direct.nextRun.isSome then s1.enableOrPin
    else s1.endDirect .ok s1.maint.direct.runData

end Sys2Proof.Machine
end

