-- ==== Sys2Proof/Machine/Arbiter.lean ====
section
/-! DEFINITION. The link arbiter: requests and eligibility (04 R72, 05 R103, R108), the priority table (05 R105, R106),
grants (03 R53, 04 R75, 06 R119 to R124, 08 R152), SETTLE (05 R101), and the work that ends every event (log 11, log 12). -/
namespace Sys2Proof.Machine

/-! ### Requests -/

/-- Of two WAITING fetches the earlier accepted goes first, port A's when they were accepted together (05 R106). -/
def Fetch.before (f g : Fetch) : Bool := decide (f.order < g.order) || (f.order == g.order && f.port == .A)

/-- The fetch that the arbiter would grant. -/
def State.fetchRequest (s : State) : Option Fetch :=
  (s.reads.fetches.filter fun f => f.state == .waiting).foldl
    (fun acc f => match acc with
      | none => some f
      | some g => if f.before g then some f else some g) none

/-- A FILLED buffer requests the link: the drain runs, and the other buffer does not carry the same page with an older
stamp while FILLED or in a program operation (04 R72). -/
def State.requests (s : State) (b : Buf) : Bool :=
  let x := s.buf b
  let y := s.buf b.other
  x.state == .filled && s.drainRuns
    && !((y.state == .filled || y.state.inProgram) && y.page == x.page && decide (y.stamp < x.stamp))

/-- A drain request is eligible when its page is not pinned (05 R108). -/
def State.drainEligible (s : State) (b : Buf) : Bool := s.requests b && !s.pinned (s.buf b).page

/-- The buffer that the arbiter would grant: the older stamp first (05 R106). -/
def State.drainRequest (s : State) : Option Buf :=
  let older : Buf := if s.drain.pb1.stamp < s.drain.pb0.stamp then .pb1 else .pb0
  if s.drainEligible older then some older
  else if s.drainEligible older.other then some older.other
  else none

/-- The direct request, if it is eligible: a DIRECT-WRITE is not while its page is pinned (05 R108). -/
def State.directRequest (s : State) : Option LinkOp :=
  if !s.maint.direct.waiting then none
  else
    match s.maint.slot with
    | .directId => some .directId
    | .directStatus => some .directStatus
    | .directRead => some .directRead
    | .directWrite => if s.pinned (pageOfLine s.maint.direct.line.toNat) then none else some .directWrite
    | .idle | .apply | .flush => none

def CtrlReq.op : CtrlReq → LinkOp
  | .probe => .probe
  | .markerRead => .markerRead
  | .markerWrite => .markerWrite

/-- The eligible request of a kind, as the link operation it asks for. -/
def State.requestOf (s : State) : ReqKind → Option LinkOp
  | .fetch => s.fetchRequest.map fun f => .fetch f.port
  | .drain => s.drainRequest.map fun b => .program b
  | .control => s.control.request.map CtrlReq.op
  | .direct => s.directRequest

/-- The order of grant in the bridge mode in force (05 R105). -/
def State.priorities (s : State) : List ReqKind :=
  match s.control.mode with
  | .starting => [.control]
  | .running | .applying => if s.atHwm then [.drain, .fetch, .direct] else [.fetch, .drain, .direct]
  | .pfDrain => [.drain, .control, .fetch]
  | .pfDone => [.fetch]
  | .resuming => [.control, .fetch]
  | .failed => [.direct]

/-- The request chosen, with its kind (05 R105). -/
def State.chosen (s : State) : Option (ReqKind × LinkOp) :=
  s.priorities.findSome? fun k => (s.requestOf k).map fun op => (k, op)

/-! ### Grants -/

def State.hold (s : State) (op : LinkOp) : State := s.setLink { s.link with holder := some op }

/-- The fetch becomes ON_LINK and its halfword is read (03 R53). -/
def State.grantFetch (s : State) (p : Port) : State :=
  match s.reads.fetches.find? (fun f => f.port == p && f.state == .waiting) with
  | none => s
  | some f =>
    ((s.hold (.fetch p)).setReads { s.reads with
        fetches := s.reads.fetches.map fun g => if g == f then { g with state := .onLink, orphaned := false } else g }).issue
      (.readData (evenAddr f.addr) 2)

/-- The other buffer becomes the held partner of the operation (04 R75, step 1). -/
def State.isHeldPartner (s : State) (b : Buf) : Bool :=
  let x := s.buf b
  let y := s.buf b.other
  y.state != .free && y.page == x.page
    && (y.state == .held || (y.state == .filled && y.retried && decide (x.stamp < y.stamp)))

/-- The buffer's bytes after the partner's overlays or fills inside the span (04 R75, steps 2 and 3). -/
def State.preparedBytes (s : State) (b : Buf) : List Host.Cell :=
  let x := s.buf b
  let y := s.buf b.other
  let inSpan := cellsWithin y.bytes (cellsFirst x.bytes) (cellsLast x.bytes)
  if !s.isHeldPartner b then x.bytes
  else if x.stamp < y.stamp then cellsLay x.bytes inSpan
  else cellsFill x.bytes inSpan

/-- The holes of a span: offsets between the first and the last valid byte with no valid byte (04 R73). -/
def holesOf (c : List Host.Cell) : List Nat :=
  (List.range' (cellsFirst c) (cellsLast c - cellsFirst c + 1)).filter fun a => (cellsGet c a).isNone

/-- The grant of a FILLED buffer: the span is prepared, then the memory holes are read or the first attempt starts (04 R75). -/
def State.grantProgram (s : State) (b : Buf) : State :=
  let x := s.buf b
  let bytes := s.preparedBytes b
  let s1 := (s.hold (.program b)).setBuf b { x with bytes := bytes, retried := false }
  let s2 := s1.setDrain { s1.drain with partner := if s.isHeldPartner b then some b.other else none }
  match holesOf bytes with
  | [] => s2.startProgramAttempt b
  | h :: rest =>
    (s2.setBuf b { s2.buf b with state := .gapRead }).issue
      (.readData (x.page * Config.pageBytes + h) ((rest.getLast?.getD h) - h + 1))

/-- PROBE: READ-ID, and the probe busy timer starts (08 R152). -/
def State.grantProbe (s : State) : State :=
  ((s.hold .probe).setControl { s.control with request := none, probeTimer := true }).issue .readId

/-- MARKER_READ: the 16 bytes of the marker record are read (08 R154). -/
def State.grantMarkerRead (s : State) : State :=
  ((s.hold .markerRead).setControl { s.control with request := none }).issue (.readData s.markerAddr Config.markerBytes)

/-- The direct request leaves the arbiter at its grant and its wait timer stops (05 R111). -/
def State.takeDirect (s : State) (op : LinkOp) : State :=
  (s.hold op).setMaint { s.maint with direct := { s.maint.direct with waiting := false } }

/-- The part holds something of the target page (06 R123). -/
def State.directConflict (s : State) : Bool :=
  let page := pageOfLine s.maint.direct.line.toNat
  s.queue.entries.any (fun e => pageOfLine e.line == page)
    || (s.drain.pb0.state != .free && s.drain.pb0.page == page)
    || (s.drain.pb1.state != .free && s.drain.pb1.page == page)

/-- DIRECT_WRITE: the conflict check, then the first run (06 R123, R124). -/
def State.grantDirectWrite (s : State) : State :=
  let s1 := s.takeDirect .directWrite
  if s.directConflict then s1.endDirect .conflict [0, 0] else s1.enableOrPin

/-- The request chosen is granted. -/
def State.grant (s : State) : LinkOp → State
  | .fetch p => s.grantFetch p
  | .program b => s.grantProgram b
  | .probe => s.grantProbe
  | .markerRead => s.grantMarkerRead
  | .markerWrite => ((s.hold .markerWrite).setControl { s.control with request := none }).grantMarkerWrite
  | .directId => (s.takeDirect .directId).issue .readId
  | .directStatus => (s.takeDirect .directStatus).issue .readStatus
  | .directRead => (s.takeDirect .directRead).issue (.readData (s.maint.direct.line.toNat * Config.lineBytes) Config.lineBytes)
  | .directWrite => s.grantDirectWrite
  | .settle _ => s

/-- A SETTLE in place of the request chosen: READ-STATUS and the settle limit (05 R101). -/
def State.grantSettle (s : State) (k : ReqKind) : State :=
  let s1 := s.hold (.settle k)
  (s1.setLink { s1.link with settleTimer := true }).issue .readStatus

/-- One decision on a FREE link (05 R104). -/
def State.decideOnce (s : State) : State :=
  if s.link.holder.isSome then s
  else
    match s.chosen with
    | none => s
    | some (k, op) => if op.needsQuiet && !s.link.quiet then s.grantSettle k else s.grant op

/-- The decision of an event; a DIRECT-WRITE that ends with CONFLICT at its grant frees the link at once and the arbiter
decides afresh (06 R123). -/
def State.decide (s : State) : State := s.decideOnce.decideOnce

/-! ### The end of an event (log 11, log 12) -/

/-- A pin wait ends when the pinning fetch has left the list, and the WRITE-ENABLE is issued (05 R109). -/
def State.endPinWait (s : State) : State :=
  match s.holderPage with
  | none => s
  | some page =>
    if s.link.pinWait && !s.pinned page then (s.setLink { s.link with pinWait := false }).issue .writeEnable else s

/-- What ends an event: a held-back fetch enters before the decision (03 R55), a pin wait ends (05 R109), the FLUSH is
judged (07 R145), the marker request follows its condition (08 R166), the arbiter decides (05 R104), and the moment moves on. -/
def State.endEvent (s : State) : State :=
  (((s.enterHeldBack.endPinWait).judgeFlush).requestMarker).decide.tick

end Sys2Proof.Machine
end

