-- ==== Sys2Proof/Machine/HostPort.lean ====
section
/-! DEFINITION. The commands of the host ports (01). -/
namespace Sys2Proof.Machine

/-- The port captures an access, drives xWAITn low and starts its stall timer with the active set's limit (01 R1, R18). -/
def State.capture (s : State) (p : Port) (acc : Access) : State :=
  s.setPort p { state := .modeStall, access := some acc, stallTimer := some s.stallLimit }

/-- A captured access waits for the mode; a write becomes the port's pending write (01 R12). -/
def State.stallForMode (s : State) (p : Port) (write : Bool) : State :=
  s.setPort p { s.port p with state := .modeStall, waitStart := if write then some s.now else none }

/-- A write begun in a power-fail mode is refused at once and counted (01 R12). -/
def State.refusePf (s : State) (p : Port) : State := (s.completeError p).countPfRefused

/-- An access with a lane enabled is handled as the bridge mode requires (01 R12). -/
def State.handleByMode (s : State) (p : Port) (write : Bool) : State :=
  match s.control.mode with
  | .starting => s.stallForMode p write
  | .running => if write then s.offerWrite p else s.handRead p
  | .applying => if write then s.stallForMode p true else s.handRead p
  | .pfDrain | .pfDone | .resuming => if write then s.refusePf p else s.handRead p
  | .failed => s.completeError p

/-- An access with neither lane enabled completes at once; a read returns the fill value (01 R2). -/
def State.completeNoLane (s : State) (p : Port) (write : Bool) : State :=
  s.completeNormal p (if write then none else some s.fill)

/-- The begin of an access that the port sees (01 R1, R2, R12). -/
def State.beginAccess (s : State) (p : Port) (acc : Access) : State :=
  let s1 := s.capture p acc
  if !acc.lower && !acc.upper then s1.completeNoLane p acc.write else s1.handleByMode p acc.write

/-- HOST_ACCESS_BEGIN (01 R1): only on an IDLE port with a strobe low; a combination held for less than 50 ns may pass
unseen (log 8); both strobes low is a write. -/
def execHostAccessBegin (p : Port) (we oe : Bool) (addr : BitVec 23) (lower upper : Bool) (data : BitVec 16)
    (held : Bool) (s : State) : Host.Outcome State Fault Refusal :=
  .next (
    if !s.rstn || (s.port p).state != .idle || !(we || oe) then s
    else if !held && !Config.shortStrobeSeen s.now then s.tick
    else (s.beginAccess p ⟨we, addr, lower, upper, data⟩).endEvent)

/-- HOST_ACCESS_END (01 R4): a port in ENDING releases its data lines and xBERRn, discards the access and is IDLE. -/
def execHostAccessEnd (p : Port) (s : State) : Host.Outcome State Fault Refusal :=
  .next (if s.rstn && (s.port p).state == .ending then s.setPort p {} else s)

/-- WITHDRAWAL (01 R5): the host ends an access that still waits. -/
def execWithdrawal (p : Port) (s : State) : Host.Outcome State Fault Refusal :=
  .next (if s.rstn && (s.port p).state.waiting then (s.withdrawWait p).endEvent else s)

/-- STALL_TIMER_EXPIRY (01 R18): no expiry occurs while the timer is not running. -/
def execStallTimerExpiry (p : Port) (s : State) : Host.Outcome State Fault Refusal :=
  .next (
    if s.rstn && (s.port p).state.waiting && (s.port p).stallTimer.isSome then (s.expireWait p).endEvent else s)

/-- The accesses that still wait for the mode in force are released, offered or refused (01 R16).  The change of mode
does this in its own event; what it left undone, if anything, is done here (log 11).  Of two held reads port A's is handed
on first (DESIGN CHOICE, log 31). -/
def State.actOnMode (s : State) : State :=
  match s.control.mode with
  | .running =>
    let s1 := (s.releaseRead .A).releaseRead .B
    if s1.queue.hasSlot || (s1.port .A).state == .modeStall || (s1.port .B).state == .modeStall then s1.servePending else s1
  | .failed => (s.failStalled .A).failStalled .B
  | .pfDone => (((s.refusePending .A).refusePending .B).releaseRead .A).releaseRead .B
  | .pfDrain => (s.refusePending .A).refusePending .B
  | .starting | .applying | .resuming => s

/-- PORT_MODE_CHANGE (01 R16). -/
def execPortModeChange (s : State) : Host.Outcome State Fault Refusal :=
  .next (if s.rstn then s.actOnMode.endEvent else s)

/-- No entry and no buffer carries the port as a waiter. -/
def State.noWaiter (s : State) (p : Port) : Bool :=
  s.queue.entries.all (fun e => !e.waiters.has p) && !s.drain.pb0.waiters.has p && !s.drain.pb1.waiters.has p

/-- THROUGH_WAITER_OUTCOME (01 R17): the outcome reaches a port whose program has ended, so that it is no waiter any
more.  The end of the program reports it in its own event (04 R81, R84; log 11). -/
def execThroughWaiterOutcome (p : Port) (success : Bool) (s : State) : Host.Outcome State Fault Refusal :=
  .next (if s.rstn && s.noWaiter p then s.throughOutcome p success else s)

end Sys2Proof.Machine
end

