-- ==== Sys2Proof/Machine/Queueing.lean ====
section
/-! DEFINITION. The commands of the posting queue, the take run and read service (02 R35, R41; 04 R69 to R71; 03 R54, R55). -/
namespace Sys2Proof.Machine

/-- WINDOW_TIMER_EXPIRY (02 R35): the line's OPEN entry becomes CLOSED. -/
def execWindowTimerExpiry (line : BitVec 19) (s : State) : Host.Outcome State Fault Refusal :=
  .next (if s.rstn then s.setQueue (s.queue.closeLine line.toNat) else s)

/-- The buffer a take fills: the one the pointer names if it is FREE, else the other (04 R70). -/
def Drain.takeInto (d : Drain) : Buf := if (d.buf d.next).state == .free then d.next else d.next.other

/-- The bytes of an entry at their page offsets (04 R71). -/
def Entry.pageCells (e : Entry) : List Host.Cell := e.bytes.map fun c => ((e.line % 8) * Config.lineBytes + c.1, c.2)

/-- The buffer that takes in a run, oldest entry first (04 R71); its stamp is younger than the other buffer's (log 22). -/
def bufferOfRun (run : List Entry) (counter : Seq) (otherStamp : Nat) : PageBuffer :=
  match run with
  | [] => .freed
  | e :: rest =>
    { state := .filled
      page := pageOfLine e.line
      bytes := run.foldl (fun acc x => cellsLay acc x.pageCells) []
      stamp := otherStamp + 1
      firstSeq := e.firstSeq
      lastSeq := seqLatest counter e.lastSeq (rest.map (·.lastSeq))
      waiters := run.foldl (fun acc x => acc.union x.waiters) {} }

/-- The take: the run moves into the buffer, the pointer moves on, the high-watermark check is made, and in RUNNING the
slot arbiter serves the pending writes (02 R41, R43; 04 R71). -/
def State.takeRun (s : State) : State :=
  let b := s.drain.takeInto
  let filled := bufferOfRun s.queue.run s.queue.counter (s.buf b.other).stamp
  let s1 := (s.setBuf b filled).setQueue (s.queue.removeRun.hwmCheck s.hwm)
  let s2 := s1.setDrain { s1.drain with next := b.other }
  if s2.control.mode == .running then s2.servePending else s2

/-- TAKE_RUN (04 R69, R71): an event of its own, made only while its conditions hold. -/
def execTakeRun (s : State) : Host.Outcome State Fault Refusal :=
  .next (if s.rstn && s.canTake then s.takeRun.endEvent else s)

/-- SLOT_ARBITER_SERVE (02 R41): in RUNNING with a free slot the pending writes are offered.  The take and the change of
mode serve them in their own events (log 11). -/
def execSlotArbiterServe (s : State) : Host.Outcome State Fault Refusal :=
  .next (if s.rstn && s.control.mode == .running && s.queue.hasSlot then s.servePending.endEvent else s)

/-- HELD_BACK_FETCH_ENTRY (03 R55): the held-back fetch enters the list once its port's orphaned fetch has left it. -/
def execHeldBackFetchEntry (s : State) : Host.Outcome State Fault Refusal :=
  .next (if s.rstn then s.enterHeldBack.endEvent else s)

/-- The data of a completed fetch: a captured lane keeps its byte, every other lane takes the memory's (03 R54). -/
def Fetch.data (f : Fetch) (lower upper : Byte) : BitVec 16 :=
  f.capturedUpper.getD upper ++ f.capturedLower.getD lower

/-- The fetch leaves the list and its data is handed to the port, or discarded if it is orphaned (03 R54). -/
def State.fetchDone (s : State) (p : Port) (lower upper : Byte) : State :=
  match s.reads.fetches.find? (fun f => f.port == p && f.state == .onLink) with
  | none => s
  | some f =>
    let s1 := s.setReads { s.reads with fetches := s.reads.fetches.filter fun g => !(g.port == p && g.state == .onLink) }
    if f.orphaned then s1 else s1.completeNormal p (some (f.data lower upper))

/-- FETCH_COMPLETION (03 R54): the READ-DATA of the fetch that holds the link completes. -/
def execFetchCompletion (lower upper : Byte) (s : State) : Host.Outcome State Fault Refusal :=
  .next (
    match s.rstn, s.link.holder, s.link.wire with
    | true, some (.fetch p), some (.readData _ _) =>
      (((s.setLink s.link.wireDone).releaseLink).fetchDone p lower upper).endEvent
    | _, _, _ => s)

/-- ARBITER_DECISION (05 R104): with the link FREE one eligible request is granted, or a SETTLE in its place.  Every
event that calls for a decision makes it itself (log 11). -/
def execArbiterDecision (s : State) : Host.Outcome State Fault Refusal :=
  .next (if s.rstn then s.decide.tick else s)

end Sys2Proof.Machine
end

