-- ==== Sys2Proof/Machine/LinkEvents.lean ====
section
/-! DEFINITION. The completions and timers of the memory link (04 R76 to R79; 05 R97 to R102, R109). -/
namespace Sys2Proof.Machine

/-- The memory holes of a gap read take the returned bytes; bytes already valid are kept (04 R76). -/
def PageBuffer.takeGap (x : PageBuffer) (addr : Nat) (bytes : List Byte) : PageBuffer :=
  { x with bytes := cellsFill x.bytes (cellsAt (addr % Config.pageBytes) bytes) }

/-- GAP_READ_COMPLETION (04 R76): the holes are filled and the first attempt begins. -/
def execGapReadCompletion (bytes : List Byte) (s : State) : Host.Outcome State Fault Refusal :=
  .next (
    match s.rstn, s.link.holder, s.link.wire with
    | true, some (.program b), some (.readData addr len) =>
      if (s.buf b).state == .gapRead && bytes.length == len then
        (((s.setLink s.link.wireDone).setBuf b ((s.buf b).takeGap addr bytes)).startProgramAttempt b).endEvent
      else s
    | _, _, _ => s)

/-- The page write of the holder is issued and charged (05 R97, 08 R165), unless its page has been pinned meanwhile:
then the operation waits for the pin (05 R108, R109; log 14). -/
def State.issuePageWrite (s : State) : State :=
  match s.holderWrite, s.holderPage with
  | some (addr, data), some page =>
    if s.pinned page then s.setLink { s.link with pinWait := true }
    else ((s.issue (.pageWrite addr data)).chargePageWrite).countRunIssued
  | _, _ => s

/-- WRITE_ENABLE_COMPLETION (05 R97): the PAGE-WRITE of the attempt, run or marker write follows. -/
def execWriteEnableCompletion (s : State) : Host.Outcome State Fault Refusal :=
  .next (
    if s.rstn && s.link.wire == some .writeEnable then
      (((s.setLink s.link.wireDone).setMemory s.memory.writeEnable).issuePageWrite).endEvent
    else s)

/-- After a PAGE-WRITE the condition is UNSETTLED, the program timer starts and the poll interval runs (05 R99, R100). -/
def Link.pageWritten (l : Link) (timeout : Nat) : Link :=
  { l with wire := none, quiet := false, programTimer := some timeout, pollWait := true }

/-- PAGE_WRITE_COMPLETION (05 R99, R100). -/
def execPageWriteCompletion (s : State) : Host.Outcome State Fault Refusal :=
  .next (
    match s.rstn, s.link.wire with
    | true, some (.pageWrite addr data) =>
      (s.setLink (s.link.pageWritten s.programTimeout)).setMemory (s.memory.pageWrite addr data)
    | _, _ => s)

/-- POLL_INTERVAL_EXPIRY (05 R99): the next READ-STATUS is issued. -/
def execPollIntervalExpiry (s : State) : Host.Outcome State Fault Refusal :=
  .next (if s.rstn && s.link.pollWait then (s.setLink { s.link with pollWait := false }).issue .readStatus else s)

/-- A READ-STATUS has completed: BUSY 0 makes the condition QUIET whatever operation issued it (05 R100). -/
def Link.sawStatus (l : Link) (st : Byte) : Link := { l with wire := none, quiet := l.quiet || !statusBusy st }

def State.sawStatus (s : State) (st : Byte) : State :=
  (s.setLink (s.link.sawStatus st)).setMemory (s.memory.sawStatus st s.now)

/-- A status that no owner judges has completed: what waited behind it is issued, and an attempt that settles starts its
program timer with it (05 R99, R102; log 13). -/
def Link.afterStale (l : Link) (timeout : Nat) : Link :=
  { l with
    stale := false
    wire := l.queued
    queued := none
    programTimer := if l.settling && l.queued.isSome then some timeout else l.programTimer }

def State.afterStale (s : State) : State := s.setLink (s.link.afterStale s.programTimeout)

/-- The next poll comes after the 20 µs interval (05 R99). -/
def State.pollAgain (s : State) : State := s.setLink { s.link with pollWait := true }

/-- Polling ends: the program timer stops (05 R99). -/
def State.pollEnds (s : State) : State := s.setLink { s.link with programTimer := none }

/-- An attempt has settled and goes on to its WRITE-ENABLE after the pin check (05 R102, R109). -/
def State.settled (s : State) : State :=
  (s.setLink { s.link with settling := false, programTimer := none }).enableOrPin

/-- A SETTLE completes (05 R101); with a stop pending, one that stood in a control operation's place ends the start-up
sequence (08 R162). -/
def State.settleDone (s : State) (k : ReqKind) : State :=
  let s1 := s.releaseLink
  if s1.control.mode == .starting && s1.control.stopPending && k == .control then s1.changeMode .pfDone else s1

/-- PROBE succeeds at BUSY 0: its timer stops and MARKER_READ is requested (08 R153). -/
def State.probeQuiet (s : State) : State :=
  ((s.releaseLink).setControl { s.control with probeTimer := false }).startupNext .markerRead

/-- The owner of the READ-STATUS judges it (05 R100). -/
def State.judgeStatus (s : State) (op : LinkOp) (st : Byte) : State :=
  match op with
  | .program b =>
    if statusBusy st then s.pollAgain else if s.link.settling then s.settled else s.pollEnds.judgeProgram b st
  | .markerWrite =>
    if statusBusy st then s.pollAgain else if s.link.settling then s.settled else s.pollEnds.judgeMarker st
  | .directWrite => if statusBusy st then s.pollAgain else s.pollEnds.judgeRun st
  | .probe => if statusBusy st then s.pollAgain else s.probeQuiet
  | .settle k => if statusBusy st then s.pollAgain else s.settleDone k
  | .fetch _ | .markerRead | .directId | .directStatus | .directRead => s

/-- The operations that poll the memory (05 R97). -/
def LinkOp.polls : LinkOp → Bool
  | .program _ | .markerWrite | .directWrite | .probe | .settle _ => true
  | .fetch _ | .markerRead | .directId | .directStatus | .directRead => false

/-- READ_STATUS_COMPLETION (05 R100). -/
def execReadStatusCompletion (status : Byte) (s : State) : Host.Outcome State Fault Refusal :=
  .next (
    if s.rstn && s.link.wire == some .readStatus then
      if s.link.stale then ((s.sawStatus status).afterStale).endEvent
      else
        match s.link.holder with
        | some op => if op.polls then ((s.sawStatus status).judgeStatus op status).endEvent else s
        | none => s
    else s)

/-- VERIFY_READ_COMPLETION (04 R78, 08 R156): the returned bytes are compared with the buffer's or the record's. -/
def execVerifyReadCompletion (bytes : List Byte) (s : State) : Host.Outcome State Fault Refusal :=
  .next (
    match s.rstn, s.link.holder, s.link.wire with
    | true, some (.program b), some (.readData _ len) =>
      if (s.buf b).state == .verifying && bytes.length == len then
        let s1 := s.setLink s.link.wireDone
        (if bytes == (s.buf b).spanBytes then s1.programSuccess b else s1.attemptFailed b .verifyMismatch).endEvent
      else s
    | true, some .markerWrite, some (.readData _ len) =>
      if bytes.length == len then
        let s1 := s.setLink s.link.wireDone
        (if bytes == s.control.marker.record.encode then s1.markerSuccess
          else s1.markerAttemptFailed .verifyMismatch).endEvent
      else s
    | _, _, _ => s)

/-- The program timer has expired: polling ends, and a READ-STATUS still on the wire is no longer judged (05 R99). -/
def Link.timedOut (l : Link) : Link := { l.abandon with pollWait := false, settling := false, programTimer := none }

/-- PROGRAM_TIMER_EXPIRY (05 R99): TIMEOUT for a drain or marker attempt, TIMED_OUT for a DIRECT-WRITE run (06 R124). -/
def execProgramTimerExpiry (s : State) : Host.Outcome State Fault Refusal :=
  .next (
    if s.rstn && s.link.programTimer.isSome then
      let s1 := s.setLink s.link.timedOut
      match s.link.holder with
      | some (.program b) => (s1.attemptFailed b .timeout).endEvent
      | some .markerWrite => (s1.markerAttemptFailed .timeout).endEvent
      | some .directWrite => (s1.endDirect .timedOut s1.maint.direct.runData).endEvent
      | _ => s
    else s)

/-- SETTLE_LIMIT_EXPIRY (05 R101): the SETTLE completes and the condition stays UNSETTLED. -/
def execSettleLimitExpiry (s : State) : Host.Outcome State Fault Refusal :=
  .next (
    match s.rstn && s.link.settleTimer, s.link.holder with
    | true, some (.settle k) => ((s.setLink s.link.abandon).settleDone k).endEvent
    | _, _ => s)

/-- PIN_WAIT_END (05 R109): the attempt or run issues its WRITE-ENABLE once the pinning fetch has left the list.  The
event that removes the fetch does this itself (log 11). -/
def execPinWaitEnd (s : State) : Host.Outcome State Fault Refusal :=
  .next (if s.rstn then s.endPinWait else s)

end Sys2Proof.Machine
end

