-- ==== Sys2Proof/Machine/DirectOps.lean ====
section
/-! DEFINITION. The direct operations (06 R118 to R124): acceptance, wait limit and completions. -/
namespace Sys2Proof.Machine

/-- A frame's command is taken: RSTn is high and the interface does not wait for SSn to rise (10 R189). -/
def State.takesFrames (s : State) : Bool := s.rstn && !s.maint.awaitSsn

/-- The tests of the long-operation slot, first BUSY and then UNREAD (10 R191); otherwise the operation's own tests. -/
def State.slotTest (s : State) : Option Byte :=
  if s.maint.slot != .idle then some respBusy else if s.maint.ready then some respUnread else none

/-- The mode test of a direct operation (06 R118). -/
def State.directModeTest (s : State) : Option Byte :=
  if s.control.mode == .running || s.control.mode == .failed then none else some respRefusedMode

/-- The line lies at or above the strapped memory size (06 R118). -/
def State.lineTest (s : State) (line : BitVec 24) : Option Byte :=
  if s.memoryBytes ≤ line.toNat * Config.lineBytes then some respInvalid else none

/-- The further tests of a DIRECT-WRITE: PROTECTED, then INVALID for no flag (06 R118). -/
def State.writeTest (s : State) (line : BitVec 24) (flags : BitVec 32) : Option Byte :=
  if pageOfLine line.toNat = s.markerPage then some respProtected else if flags = 0 then some respInvalid else none

/-- An accepted direct operation occupies the slot and becomes the direct request with its wait timer (06 R118). -/
def State.acceptDirect (s : State) (k : LongKind) (line : BitVec 24) (flags : BitVec 32) (data : List Byte) : State :=
  (s.setMaint { s.maint with
      slot := k, direct := { line := line, flags := flags, data := data, waiting := true } }).respond respOk []

/-- DIRECT_ID (06 R118). -/
def execDirectId (s : State) : Host.Outcome State Fault Refusal :=
  .next (
    if s.takesFrames then
      match s.slotTest.or s.directModeTest with
      | some code => s.respond code []
      | none => (s.acceptDirect .directId 0 0 []).endEvent
    else s)

/-- DIRECT_STATUS (06 R118). -/
def execDirectStatus (s : State) : Host.Outcome State Fault Refusal :=
  .next (
    if s.takesFrames then
      match s.slotTest.or s.directModeTest with
      | some code => s.respond code []
      | none => (s.acceptDirect .directStatus 0 0 []).endEvent
    else s)

/-- DIRECT_READ (06 R118). -/
def execDirectRead (line : BitVec 24) (s : State) : Host.Outcome State Fault Refusal :=
  .next (
    if s.takesFrames then
      match (s.slotTest.or s.directModeTest).or (s.lineTest line) with
      | some code => s.respond code []
      | none => (s.acceptDirect .directRead line 0 []).endEvent
    else s)

/-- DIRECT_WRITE (06 R118). -/
def execDirectWrite (line : BitVec 24) (flags : BitVec 32) (data : List Byte) (s : State) :
    Host.Outcome State Fault Refusal :=
  .next (
    if s.takesFrames then
      match ((s.slotTest.or s.directModeTest).or (s.lineTest line)).or (s.writeTest line flags) with
      | some code => s.respond code []
      | none => (s.acceptDirect .directWrite line flags data).endEvent
    else s)

/-- DIRECT_WAIT_LIMIT_EXPIRY (05 R111): a request not granted within 50 ms leaves the arbiter with TIMED_OUT. -/
def execDirectWaitLimitExpiry (s : State) : Host.Outcome State Fault Refusal :=
  .next (
    if s.rstn && s.maint.direct.waiting then
      ((s.setMaint { s.maint with direct := { s.maint.direct with waiting := false } }).completeLong .timedOut []).endEvent
    else s)

/-- DIRECT_ID_COMPLETION (06 R120): OK with the three bytes as returned. -/
def execDirectIdCompletion (b0 b1 b2 : Byte) (s : State) : Host.Outcome State Fault Refusal :=
  .next (
    if s.rstn && !s.link.stale && s.link.holder == some .directId && s.link.wire == some .readId then
      ((s.setLink s.link.wireDone).endDirect .ok [b0, b1, b2]).endEvent
    else s)

/-- DIRECT_STATUS_COMPLETION (06 R121): OK with the status byte unchanged; BUSY 0 makes the condition QUIET. -/
def execDirectStatusCompletion (status : Byte) (s : State) : Host.Outcome State Fault Refusal :=
  .next (
    if s.rstn && !s.link.stale && s.link.holder == some .directStatus && s.link.wire == some .readStatus then
      ((s.sawStatus status).endDirect .ok [status]).endEvent
    else s)

/-- DIRECT_READ_COMPLETION (06 R122): OK with the 32 bytes as the memory stores them. -/
def execDirectReadCompletion (bytes : List Byte) (s : State) : Host.Outcome State Fault Refusal :=
  .next (
    match s.rstn, s.link.holder, s.link.wire with
    | true, some .directRead, some (.readData _ len) =>
      if bytes.length == len then ((s.setLink s.link.wireDone).endDirect .ok bytes).endEvent else s
    | _, _, _ => s)

end Sys2Proof.Machine
end

