-- ==== Sys2Proof/Machine/Startup.lean ====
section
/-! DEFINITION. The start-up sequence, the supply input and cold reset (08 R151 to R172, 11 R206, R207). -/
namespace Sys2Proof.Machine

/-- No memory answers: all three identification bytes are 0x00, or all three are 0xFF (08 R152). -/
def noMemoryAnswers (b0 b1 b2 : Byte) : Bool :=
  (b0 == 0x00 && b1 == 0x00 && b2 == 0x00) || (b0 == 0xFF && b1 == 0xFF && b2 == 0xFF)

/-- PROBE fails at its READ-ID: the probe busy timer stops and the mode becomes FAILED (08 R152). -/
def State.probeSilent (s : State) : State :=
  ((s.releaseLink).setControl { s.control with probeTimer := false }).startupFailed .noResponse

/-- PROBE_READ_ID_COMPLETION (08 R152).  A READ-ID left on the wire by a PROBE that timed out is not judged (log 27). -/
def execProbeReadIdCompletion (b0 b1 b2 : Byte) (s : State) : Host.Outcome State Fault Refusal :=
  .next (
    if s.rstn && s.link.wire == some .readId then
      let s1 := s.setLink s.link.wireDone
      if s.link.stale then s1.afterStale.endEvent
      else if s.link.holder == some .probe then
        (if noMemoryAnswers b0 b1 b2 then s1.probeSilent else s1.issue .readStatus).endEvent
      else s
    else s)

/-- PROBE_BUSY_TIMER_EXPIRY (08 R153): PROBE completes, the condition stays as it is and the mode becomes FAILED. -/
def execProbeBusyTimerExpiry (s : State) : Host.Outcome State Fault Refusal :=
  .next (
    if s.rstn && s.control.probeTimer && s.link.holder == some .probe then
      ((((s.setLink s.link.abandon).releaseLink).setControl { s.control with probeTimer := false }).startupFailed
        .busyStuck).endEvent
    else s)

/-- PREVIOUS_LOSS is recorded for UNCLEAN and TRUNCATED (08 R154). -/
def State.recordLoss (s : State) (c : MarkerClass) : State :=
  if c == .unclean || c == .truncated then
    s.addFault
      { kind := .previousLoss, source := .control, epoch := s.control.epoch, page := some s.markerPage, detail := c.code }
  else s

/-- The marker record is classified, the report is placed and MARKER_WRITE is requested (08 R154, R155). -/
def State.placeReport (s : State) (bytes : List Byte) : State :=
  let report := reportOf (decodeMarker bytes)
  ((s.setControl { s.control with report := report }).recordLoss report.previous).startupNext .markerWrite

/-- MARKER_READ_COMPLETION (08 R154). -/
def execMarkerReadCompletion (bytes : List Byte) (s : State) : Host.Outcome State Fault Refusal :=
  .next (
    match s.rstn, s.link.holder, s.link.wire with
    | true, some .markerRead, some (.readData _ len) =>
      if bytes.length == len then (((s.setLink s.link.wireDone).releaseLink).placeReport bytes).endEvent else s
    | _, _, _ => s)

/-! ### PFAILn (08 R160) -/

/-- PFAILN_FALL (08 R160): the pin goes low; the assertion filter starts, or the release filter stops. -/
def execPfailnFall (s : State) : Host.Outcome State Fault Refusal :=
  .next (
    if s.control.pfailLow then s
    else s.setControl { s.control with pfailLow := true, filterTimer := s.rstn && !s.control.filtered })

/-- PFAILN_RISE (08 R160): the pin goes high; the release filter starts, or the assertion filter stops. -/
def execPfailnRise (s : State) : Host.Outcome State Fault Refusal :=
  .next (
    if s.control.pfailLow then
      s.setControl { s.control with pfailLow := false, filterTimer := s.rstn && s.control.filtered }
    else s)

/-- A control operation, or a SETTLE granted in its place, holds the link (08 R162). -/
def State.controlOnLink (s : State) : Bool :=
  match s.link.holder with
  | some .probe | some .markerRead | some .markerWrite | some (.settle .control) => true
  | _ => false

/-- The control block acts on an assertion according to the mode (08 R161 to R164, R170). -/
def State.onAssertion (s : State) : State :=
  match s.control.mode with
  | .running | .applying => s.enterPfDrain
  | .starting =>
    if s.controlOnLink then s.setControl { s.control with stopPending := true } else s.changeMode .pfDone
  | .resuming => if s.link.holder == some .markerWrite then s else s.enterPfDrain
  | .pfDrain => s.setControl { s.control with resumePending := false }
  | .pfDone | .failed => s

/-- FILTERED_ASSERTION (08 R160, R161): the filter timer expires with PFAILn low. -/
def execFilteredAssertion (s : State) : Host.Outcome State Fault Refusal :=
  .next (
    if s.rstn && s.control.filterTimer && s.control.pfailLow && !s.control.filtered then
      ((s.setControl { s.control with filtered := true, filterTimer := false }).onAssertion).endEvent
    else s)

/-- The control block acts on a release according to the mode (08 R162, R170). -/
def State.onRelease (s : State) : State :=
  match s.control.mode with
  | .pfDrain =>
    if s.link.holder == some .markerWrite then s.setControl { s.control with resumePending := true }
    else s.changeMode .running
  | .pfDone => s.changeMode (if s.control.fromStarting then .starting else .resuming)
  | .starting => s.setControl { s.control with stopPending := false }
  | .running | .applying | .resuming | .failed => s

/-- FILTERED_RELEASE (08 R160, R170): the filter timer expires with PFAILn high. -/
def execFilteredRelease (s : State) : Host.Outcome State Fault Refusal :=
  .next (
    if s.rstn && s.control.filterTimer && !s.control.pfailLow && s.control.filtered then
      ((s.setControl { s.control with filtered := false, filterTimer := false }).onRelease).endEvent
    else s)

/-! ### Cold reset (08 R172, 11 R206) -/

/-- Every block at its cold-reset value; the serial memory, the level on the PFAILn pin, the moment and the waiting
commands are no state of the part that a reset clears (log 28). -/
def State.coldReset (s : State) (m : SerialMemory) : State :=
  { State.reset with
    control := { State.reset.control with pfailLow := s.control.pfailLow }
    memory := m
    now := s.now + 1
    pending := s.pending }

/-- RSTN_FALL (08 R172): every block enters its cold-reset state and the operation on the link is cut (05 R98). -/
def execRstnFall (s : State) : Host.Outcome State Fault Refusal :=
  .next (if s.rstn then s.coldReset (s.memory.cut s.link.wire s.now) else s)

/-- A port at the rise of RSTn: IDLE, or ENDING with xWAITn and xBERRn released while its strobes are active (01 R6). -/
def portAtRise (strobes : Bool) : PortRec := { state := if strobes then .ending else .idle }

/-- The part at the rise of RSTn (11 R206): the straps are sampled, both sets take their values, the filter begins as
released (08 R160), and the start-up sequence requests PROBE (08 R151). -/
def State.riseReset (s : State) (st : Straps) (strobesA strobesB ssnLow : Bool) : State :=
  let s0 := s.coldReset s.memory
  { s0 with
    rstn := true
    straps := st
    shadow := ConfigSet.coldReset st
    active := ConfigSet.coldReset st
    ports := { a := portAtRise strobesA, b := portAtRise strobesB }
    control := { s0.control with request := some .probe, filterTimer := s0.control.pfailLow }
    maint := { s0.maint with awaitSsn := ssnLow } }

/-- RSTN_RISE (11 R206). -/
def execRstnRise (size1 size0 dclass strobesA strobesB ssnLow : Bool) (s : State) : Host.Outcome State Fault Refusal :=
  .next (if s.rstn then s else (s.riseReset ⟨size1, size0, dclass⟩ strobesA strobesB ssnLow).endEvent)

end Sys2Proof.Machine
end

