-- ==== Sys2Proof/Machine/Maintenance.lean ====
section
/-! DEFINITION. The commands of the maintenance link (10), with what each does to the block that owns its state (06, 07, 08, 09). -/
namespace Sys2Proof.Machine

/-- FRAME_CUT_SHORT (10 R188): the frame error count advances up to 255; the bytes are discarded. -/
def execFrameCutShort (bytes : List Byte) (bits : Nat) (s : State) : Host.Outcome State Fault Refusal :=
  .next (
    if s.takesFrames && cutBeforeCommand bytes bits then
      s.setMaint { s.maint with
        frameErrors := if s.maint.frameErrors = 255 then s.maint.frameErrors else s.maint.frameErrors + 1 }
    else s)

/-- UNKNOWN_COMMAND (10 R190). -/
def execUnknownCommand (code : Byte) (s : State) : Host.Outcome State Fault Refusal :=
  .next (if s.takesFrames && (argBytes code).isNone then s.respond respUnknown [] else s)

/-- SSN_RISE_AFTER_RESET (10 R189): new frames are taken again; the partial frame is not counted. -/
def execSsnRiseAfterReset (s : State) : Host.Outcome State Fault Refusal :=
  .next (if s.rstn then s.setMaint { s.maint with awaitSsn := false } else s)

/-- STATUS (10 R195). -/
def execStatus (s : State) : Host.Outcome State Fault Refusal :=
  .next (if s.takesFrames then s.respond respOk s.statusRecord else s)

/-- RESULT (10 R193): the record is returned and result-ready is cleared, or NONE_PENDING. -/
def execResult (s : State) : Host.Outcome State Fault Refusal :=
  .next (
    if s.takesFrames then
      match s.maint.ready, s.maint.result with
      | true, some r => (s.respond respOk r.encode).setMaint { (s.respond respOk r.encode).maint with ready := false }
      | _, _ => s.respond respNonePending []
    else s)

/-- READ_MARKER_REPORT (10 R196). -/
def execReadMarkerReport (s : State) : Host.Outcome State Fault Refusal :=
  .next (if s.takesFrames then s.respond respOk s.control.report.encode else s)

/-- READ_FAULT (09 R177): the oldest record leaves the list with the overflow count and the records left; an emptied
list resets the overflow count. -/
def execReadFault (s : State) : Host.Outcome State Fault Refusal :=
  .next (
    if s.takesFrames then
      match s.faults.list with
      | [] => s.respond respNonePending []
      | r :: rest =>
        (s.setFaults { s.faults with
            list := rest, overflow := if rest.isEmpty then 0 else s.faults.overflow }).respond respOk
          (r.encode ++ [s.faults.overflow, BitVec.ofNat 8 rest.length])
    else s)

/-- READ_COUNTERS (09 R182). -/
def execReadCounters (s : State) : Host.Outcome State Fault Refusal :=
  .next (if s.takesFrames then s.respond respOk s.faults.counters.encode else s)

/-- CLEAR_COUNTERS (09 R183): the six counters and the frame error count become 0. -/
def execClearCounters (s : State) : Host.Outcome State Fault Refusal :=
  .next (
    if s.takesFrames then
      ((s.setCounters {}).setMaint { s.maint with frameErrors := 0 }).respond respOk []
    else s)

/-- SET_IRQ_MASK (07 R134): bit 0 FAULT, bit 1 DONE, the other bits ignored (10 R199). -/
def execSetIrqMask (mask : Byte) (s : State) : Host.Outcome State Fault Refusal :=
  .next (
    if s.takesFrames then
      (s.setFaults { s.faults with faultEnable := mask.getLsbD 0, doneEnable := mask.getLsbD 1 }).respond respOk []
    else s)

/-- READ_ACTIVE (07 R133). -/
def execReadActive (item : Byte) (s : State) : Host.Outcome State Fault Refusal :=
  .next (
    if s.takesFrames then
      if item.toNat < 9 then s.respond respOk (itemBytes (s.active.item item.toNat)) else s.respond respInvalid []
    else s)

/-- READ_SHADOW (07 R133). -/
def execReadShadow (item : Byte) (s : State) : Host.Outcome State Fault Refusal :=
  .next (
    if s.takesFrames then
      if item.toNat < 9 then s.respond respOk (itemBytes (s.shadow.item item.toNat)) else s.respond respInvalid []
    else s)

/-- WRITE_SHADOW (07 R131): INVALID before REFUSED_MODE; the item is stored whole, unchecked. -/
def execWriteShadow (item : Byte) (bytes : Item) (s : State) : Host.Outcome State Fault Refusal :=
  .next (
    if s.takesFrames then
      if 9 ≤ item.toNat then s.respond respInvalid []
      else if s.control.mode == .applying then s.respond respRefusedMode []
      else (s.setShadow (s.shadow.setItem item.toNat bytes)).respond respOk []
    else s)

/-- REVERT_SHADOW (07 R132). -/
def execRevertShadow (s : State) : Host.Outcome State Fault Refusal :=
  .next (
    if s.takesFrames then
      if s.control.mode == .applying then s.respond respRefusedMode []
      else (s.setShadow s.active).respond respOk []
    else s)

/-- A buffer is HELD. -/
def State.anyHeld (s : State) : Bool := s.drain.pb0.state == .held || s.drain.pb1.state == .held

/-- The acceptance of an APPLY (07 R138). -/
def State.acceptApply (s : State) : State :=
  ((s.setMaint { s.maint with slot := .apply }).setQueue s.queue.closeAll).changeMode .applying

/-- APPLY (07 R136): slot, result, mode, HELD buffers and the shadow set are tested in this order. -/
def execApply (s : State) : Host.Outcome State Fault Refusal :=
  .next (
    if s.takesFrames then
      match s.slotTest with
      | some code => s.respond code []
      | none =>
        if s.control.mode != .running then s.respond respRefusedMode []
        else if s.anyHeld then s.respond respRefusedHeld []
        else
          match s.shadow.firstBad with
          | some i => s.respond respInvalid [BitVec.ofNat 8 i]
          | none => (s.acceptApply.respond respOk []).endEvent
    else s)

/-- APPLY_COMPLETION (07 R138, R140): the event that follows an acceptance at which nothing was retained; otherwise the
last program's success completes the APPLY in its own event (log 11). -/
def execApplyCompletion (s : State) : Host.Outcome State Fault Refusal :=
  .next (if s.rstn && s.control.mode == .applying && s.nothingRetained then s.completeApply.endEvent else s)

/-- The modes in which FLUSH is accepted (07 R144). -/
def Mode.flushes : Mode → Bool
  | .running | .pfDrain | .pfDone | .resuming => true
  | .starting | .applying | .failed => false

/-- The acceptance of a FLUSH (07 R144): slot, mark, discard flag, and the OPEN entries close. -/
def State.acceptFlush (s : State) : State :=
  let s1 := s.setMaint { s.maint with slot := .flush }
  let s2 := s1.setControl { s1.control with flushMark := s.queue.counter, flushDiscard := false }
  s2.setQueue s2.queue.closeAll

/-- FLUSH (07 R144): it is judged at once, in the event of its acceptance. -/
def execFlush (s : State) : Host.Outcome State Fault Refusal :=
  .next (
    if s.takesFrames then
      match s.slotTest with
      | some code => s.respond code []
      | none =>
        if !s.control.mode.flushes then s.respond respRefusedMode []
        else (s.acceptFlush.respond respOk []).endEvent
    else s)

/-- FLUSH_COMPLETION (07 R145, R146): the FLUSH in the slot is judged.  Every event that can complete it judges it
itself (log 11). -/
def execFlushCompletion (s : State) : Host.Outcome State Fault Refusal :=
  .next (if s.rstn then s.judgeFlush else s)

/-- The buffer that an argument byte names (06 R113). -/
def bufArg (b : Byte) : Option Buf := if b = 0 then some .pb0 else if b = 1 then some .pb1 else none

/-- A HELD buffer becomes FILLED with fresh attempts (06 R113). -/
def State.retryBuffer (s : State) (b : Buf) : State :=
  s.setBuf b { s.buf b with state := .filled, attempts := 0, failure := none, waiters := {}, retried := true }

/-- RETRY_HELD (06 R113). -/
def execRetryHeld (buffer : Byte) (s : State) : Host.Outcome State Fault Refusal :=
  .next (
    if s.takesFrames then
      match bufArg buffer with
      | none => s.respond respInvalid []
      | some b =>
        if (s.buf b).state == .held then ((s.retryBuffer b).respond respOk []).endEvent else s.respond respNoHeld []
    else s)

/-- The release of a HELD buffer, in the steps of 06 R115; a FLUSH for which it was judged takes its discard flag (07 R146). -/
def State.releaseBuffer (s : State) (b : Buf) : State :=
  let x := s.buf b
  let s1 := if s.maint.slot == .flush && s.bufJudged x then s.setControl { s.control with flushDiscard := true } else s
  let s2 := s1.setBuf b .freed
  let s3 := if s2.drain.partner == some b then s2.setDrain { s2.drain with partner := none } else s2
  (s3.addFault
    { kind := .heldReleased, source := .maint, epoch := s.control.epoch, page := some x.page, seq := some x.firstSeq,
      retained := some false, detail := BitVec.ofNat 8 x.lines.length }).judgeApply

/-- RELEASE_HELD (06 R115): OK with the count of lines discarded, or NO_HELD. -/
def execReleaseHeld (buffer : Byte) (s : State) : Host.Outcome State Fault Refusal :=
  .next (
    if s.takesFrames then
      match bufArg buffer with
      | none => s.respond respInvalid []
      | some b =>
        if (s.buf b).state == .held then
          ((s.releaseBuffer b).respond respOk [BitVec.ofNat 8 (s.buf b).lines.length]).endEvent
        else s.respond respNoHeld []
    else s)

/-- REPROBE (08 R159): in FAILED the sequence starts again, or PF_DONE is entered while PFAILn is asserted. -/
def execReprobe (s : State) : Host.Outcome State Fault Refusal :=
  .next (
    if s.takesFrames then
      if s.control.mode == .failed then
        ((s.changeMode (if s.control.filtered then .pfDone else .starting)).respond respOk []).endEvent
      else s.respond respRefusedMode []
    else s)

end Sys2Proof.Machine
end

