-- ==== Sys2Proof/Machine/Dispatch.lean ====
section
/-! DEFINITION. One arm for each command: its meaning. -/
namespace Sys2Proof.Machine

def exec (i : Instr) (s : State) : Host.Outcome State Fault Refusal :=
  match i with
  | .hostAccessBegin p we oe addr lower upper data held => Sys2Proof.Machine.execHostAccessBegin p we oe addr lower upper data held s
  | .hostAccessEnd p => Sys2Proof.Machine.execHostAccessEnd p s
  | .withdrawal p => Sys2Proof.Machine.execWithdrawal p s
  | .stallTimerExpiry p => Sys2Proof.Machine.execStallTimerExpiry p s
  | .windowTimerExpiry line => Sys2Proof.Machine.execWindowTimerExpiry line s
  | .takeRun => Sys2Proof.Machine.execTakeRun s
  | .slotArbiterServe => Sys2Proof.Machine.execSlotArbiterServe s
  | .portModeChange => Sys2Proof.Machine.execPortModeChange s
  | .heldBackFetchEntry => Sys2Proof.Machine.execHeldBackFetchEntry s
  | .arbiterDecision => Sys2Proof.Machine.execArbiterDecision s
  | .fetchCompletion lower upper => Sys2Proof.Machine.execFetchCompletion lower upper s
  | .gapReadCompletion bytes => Sys2Proof.Machine.execGapReadCompletion bytes s
  | .writeEnableCompletion => Sys2Proof.Machine.execWriteEnableCompletion s
  | .pageWriteCompletion => Sys2Proof.Machine.execPageWriteCompletion s
  | .pollIntervalExpiry => Sys2Proof.Machine.execPollIntervalExpiry s
  | .readStatusCompletion status => Sys2Proof.Machine.execReadStatusCompletion status s
  | .verifyReadCompletion bytes => Sys2Proof.Machine.execVerifyReadCompletion bytes s
  | .throughWaiterOutcome p success => Sys2Proof.Machine.execThroughWaiterOutcome p success s
  | .programTimerExpiry => Sys2Proof.Machine.execProgramTimerExpiry s
  | .settleLimitExpiry => Sys2Proof.Machine.execSettleLimitExpiry s
  | .pinWaitEnd => Sys2Proof.Machine.execPinWaitEnd s
  | .directWaitLimitExpiry => Sys2Proof.Machine.execDirectWaitLimitExpiry s
  | .directIdCompletion b0 b1 b2 => Sys2Proof.Machine.execDirectIdCompletion b0 b1 b2 s
  | .directStatusCompletion status => Sys2Proof.Machine.execDirectStatusCompletion status s
  | .directReadCompletion bytes => Sys2Proof.Machine.execDirectReadCompletion bytes s
  | .probeReadIdCompletion b0 b1 b2 => Sys2Proof.Machine.execProbeReadIdCompletion b0 b1 b2 s
  | .probeBusyTimerExpiry => Sys2Proof.Machine.execProbeBusyTimerExpiry s
  | .markerReadCompletion bytes => Sys2Proof.Machine.execMarkerReadCompletion bytes s
  | .pfailnFall => Sys2Proof.Machine.execPfailnFall s
  | .pfailnRise => Sys2Proof.Machine.execPfailnRise s
  | .filteredAssertion => Sys2Proof.Machine.execFilteredAssertion s
  | .filteredRelease => Sys2Proof.Machine.execFilteredRelease s
  | .rstnFall => Sys2Proof.Machine.execRstnFall s
  | .rstnRise size1 size0 dclass strobesA strobesB ssnLow => Sys2Proof.Machine.execRstnRise size1 size0 dclass strobesA strobesB ssnLow s
  | .frameCutShort bytes bits => Sys2Proof.Machine.execFrameCutShort bytes bits s
  | .unknownCommand code => Sys2Proof.Machine.execUnknownCommand code s
  | .status => Sys2Proof.Machine.execStatus s
  | .result => Sys2Proof.Machine.execResult s
  | .readMarkerReport => Sys2Proof.Machine.execReadMarkerReport s
  | .readFault => Sys2Proof.Machine.execReadFault s
  | .readCounters => Sys2Proof.Machine.execReadCounters s
  | .clearCounters => Sys2Proof.Machine.execClearCounters s
  | .setIrqMask mask => Sys2Proof.Machine.execSetIrqMask mask s
  | .readActive item => Sys2Proof.Machine.execReadActive item s
  | .readShadow item => Sys2Proof.Machine.execReadShadow item s
  | .writeShadow item bytes => Sys2Proof.Machine.execWriteShadow item bytes s
  | .revertShadow => Sys2Proof.Machine.execRevertShadow s
  | .apply => Sys2Proof.Machine.execApply s
  | .applyCompletion => Sys2Proof.Machine.execApplyCompletion s
  | .flush => Sys2Proof.Machine.execFlush s
  | .flushCompletion => Sys2Proof.Machine.execFlushCompletion s
  | .directId => Sys2Proof.Machine.execDirectId s
  | .directStatus => Sys2Proof.Machine.execDirectStatus s
  | .directRead line => Sys2Proof.Machine.execDirectRead line s
  | .directWrite line flags data => Sys2Proof.Machine.execDirectWrite line flags data s
  | .retryHeld buffer => Sys2Proof.Machine.execRetryHeld buffer s
  | .releaseHeld buffer => Sys2Proof.Machine.execReleaseHeld buffer s
  | .reprobe => Sys2Proof.Machine.execReprobe s
  | .ssnRiseAfterReset => Sys2Proof.Machine.execSsnRiseAfterReset s

end Sys2Proof.Machine
end

