-- ==== Sys2Proof/Machine/Pins.lean ====
section
/-! DEFINITION. The levels on the clock and data lines of the two serial links (05 R94, R98; 10 R187, R189; 11 R206).
The bits of a byte travel most significant first.  Where a level depends on the place inside a memory operation or a frame, that place is an argument: the model keeps no
count of clock edges (log 23).  xWAITn, xBERRn, MCSn and IRQn are views of Flags.lean. -/
namespace Sys2Proof.Machine

/-- MDO is high at clock `k` of the operation: the part sends the command, its address and its data, and holds MDO low
while the memory sends (05 R94). -/
def MemOp.mdoHigh (op : MemOp) (k : Nat) : Bool := wireBit op.sent k

/-- The bytes that the part receives in the operation from the levels on MDI, clock by clock: it ignores MDI while it sends,
and then takes the memory's bytes, the most significant bit first (05 R94).  They are the operands of the completions. -/
def MemOp.received (op : MemOp) (mdi : Nat → Bool) : List Byte :=
  (List.range op.answerLen).map fun i => wireByte mdi (8 * (op.sent.length + i))

/-- MCK is high: it idles low and is high only in the second half of a clock of the operation on the wire (05 R94); it is
low while RSTn is low, where no operation is on the wire (05 R98). -/
def State.mckHigh (s : State) (secondHalf : Bool) : Bool := s.link.wire.isSome && secondHalf

/-- MDO is high at clock `k` of the operation on the wire (05 R94); it is low while RSTn is low (05 R98, 11 R206), and
between two operations its level is a free value (log 32). -/
def State.mdoHigh (s : State) (k : Nat) : Bool :=
  match s.link.wire with
  | some op => op.mdoHigh k
  | none => s.rstn && Config.mdoBetween s.now

/-- The level of SSn, and while it is low the place in the frame: byte `i` of a frame whose command has `n` argument bytes
(10 R187). -/
inductive SsnLevel where
  | high
  | low (n i : Nat)
deriving DecidableEq, Repr

/-- What the part drives on SDO, none where it leaves SDO undriven: while RSTn is low (10 R189, 11 R206) and while SSn is
high (10 R187).  In a frame it drives the bytes of 10 R187; in the partial frame of a reset with SSn low, a free value
(log 32). -/
def State.sdo (s : State) (ssn : SsnLevel) : Option Byte :=
  match s.rstn, ssn with
  | false, _ => none
  | true, .high => none
  | true, .low n i =>
    if s.maint.awaitSsn then Config.sdoPartialFrame s.now i else some (sdoByte n s.maint.response i)

/-- SDO is high at bit `j` of the byte that the part drives, the most significant bit first; none where SDO is undriven
(10 R187). -/
def State.sdoHigh (s : State) (ssn : SsnLevel) (j : Nat) : Option Bool := (s.sdo ssn).map fun b => b.getMsbD j

/-- SSn between two commands: every frame that is a command has ended with its rise, so SSn is high but for the partial
frame that stood on the link when RSTn rose (10 R189). -/
def State.ssnBetween (s : State) : SsnLevel := if s.maint.awaitSsn then .low 0 0 else .high

end Sys2Proof.Machine
end

