-- ==== Sys2Proof/Safety.lean ====
section
/-! DEFINITION. What holds in a safe run: the laws of the posting queue, the fault list, the configuration, the memory
link, read service and the resets that every step keeps, and the conditions under which claims speak of a command. -/
namespace Sys2Proof.Machine

/-! ### Invariants -/

/-- At most 24 entries (02 R21); an entry with a younger entry of its line behind it is CLOSED, so that no line has more
than one OPEN entry and a line's OPEN entry is its youngest (02 R23); a window timer exactly where an entry is OPEN (02 R22, R23). -/
structure Queue.Lawful (q : Queue) : Prop where
  fits : q.entries.length ≤ Config.queueCapacity
  closedBehind : q.entries.Pairwise fun e f => e.line = f.line → e.isOpen = false
  timers : ∀ e ∈ q.entries, e.timer.isSome = e.isOpen

/-- At most 8 records (09 R173); a non-zero overflow count stands beside a non-empty list (09 R180). -/
structure FaultUnit.Lawful (u : FaultUnit) : Prop where
  fits : u.list.length ≤ Config.faultCapacity
  beside : u.overflow ≠ 0 → u.list ≠ []

/-- The active set holds valid values in every field (07 R128), and in APPLYING so does the shadow set, which is held
still from its validation on (07 R138). -/
structure State.ConfigLawful (s : State) : Prop where
  active : s.active.firstBad = none
  shadow : s.control.mode = .applying → s.shadow.firstBad = none

/-- A memory operation that the sequencer issues only while the memory condition is QUIET (05 R100). -/
def MemOp.needsQuiet : MemOp → Bool
  | .writeEnable | .pageWrite _ _ | .readData _ _ => true
  | .readId | .readStatus => false

/-- READ-ID or READ-STATUS: what may be left on the wire after its owner has stopped waiting (log 13). -/
def MemOp.mayBeLeft : MemOp → Bool
  | .readId | .readStatus => true
  | .writeEnable | .pageWrite _ _ | .readData _ _ => false

/-- Only the buffer whose program operation holds the link is in GAP_READ, PROGRAMMING or VERIFYING (05 R97). -/
structure State.OneProgram (s : State) : Prop where
  pb0 : s.drain.pb0.state.inProgram = true → s.link.holder = some (.program .pb0)
  pb1 : s.drain.pb1.state.inProgram = true → s.link.holder = some (.program .pb1)

/-- The memory operation lies within one page (05 R94). -/
def MemOp.withinPage : MemOp → Prop
  | .readData addr len => addr % Config.pageBytes + len ≤ Config.pageBytes
  | .pageWrite addr data => addr % Config.pageBytes + data.length ≤ Config.pageBytes
  | .readId | .readStatus | .writeEnable => True

/-- Valid bytes in the canonical form, every offset below the bound. -/
def CellsBelow (c : List Host.Cell) (bound : Nat) : Prop := cellsWf c = true ∧ ∀ x ∈ c, x.1 < bound

/-- Every valid byte of an entry lies in its line and every valid byte of a buffer in its page, in the canonical form
(02 R22, 04 R66), and every memory operation on the wire or behind it lies within one page (05 R94). -/
structure State.BytesLawful (s : State) : Prop where
  entries : ∀ e ∈ s.queue.entries, CellsBelow e.bytes Config.lineBytes
  pb0 : CellsBelow s.drain.pb0.bytes Config.pageBytes
  pb1 : CellsBelow s.drain.pb1.bytes Config.pageBytes
  wire : ∀ op, s.link.wire = some op → op.withinPage
  queued : ∀ op, s.link.queued = some op → op.withinPage

/-- The discipline of the memory link (05 R97 to R102, R109): what needs a quiet memory is on the wire, or behind what is
on it, only while the condition is QUIET; an operation waits behind another only where that one was left on the wire, which
is a READ-ID or a READ-STATUS; and the waits of the sequencer exclude each other. -/
structure Link.Lawful (l : Link) : Prop where
  wireQuiet : ∀ op, l.wire = some op → op.needsQuiet = true → l.quiet = true
  queuedQuiet : ∀ op, l.queued = some op → op.needsQuiet = true → l.quiet = true
  queuedBehind : l.queued.isSome = true → l.stale = true
  queuedKind : ∀ addr data, l.queued ≠ some (.pageWrite addr data)
  leftOver : l.stale = true → ∃ op, l.wire = some op ∧ op.mayBeLeft = true
  free : l.holder = none →
    (l.wire = none ∨ l.stale = true) ∧ l.queued = none ∧ l.pollWait = false ∧ l.pinWait = false ∧ l.settling = false
      ∧ l.programTimer = none ∧ l.settleTimer = false
  polling : l.pollWait = true → l.wire = none
  pinWaiting : l.pinWait = true →
    (l.wire = none ∨ l.stale = true) ∧ l.queued = none ∧ l.pollWait = false ∧ l.quiet = true ∧ l.settling = false
      ∧ l.programTimer = none
  timing : l.programTimer.isSome = true → l.queued = none ∧ (l.wire = none ∨ l.wire = some .readStatus)
  settling : l.settling = true →
    ((∃ b, l.holder = some (.program b)) ∨ l.holder = some .markerWrite)
      ∧ (l.queued = none ∨ l.queued = some .readStatus) ∧ (l.wire = none ∨ l.wire = some .readStatus ∨ l.stale = true)
  settle : ∀ k, l.holder = some (.settle k) →
    (l.queued = none ∨ l.queued = some .readStatus) ∧ (l.wire = none ∨ l.wire = some .readStatus ∨ l.stale = true)
  probe : l.holder = some .probe →
    (l.queued = none ∨ l.queued = some .readId) ∧ ∀ op, l.wire = some op → op.mayBeLeft = true

/-- At most one fetch for each port (03 R51). -/
structure ReadService.Lawful (r : ReadService) : Prop where
  onePerPort : r.fetches.Pairwise fun f g => f.port ≠ g.port

/-- While RSTn is low every block of the part stands at its cold-reset value, but for the level on the PFAILn pin, which
is the world's (11 R206; log 28). -/
def State.HeldInReset (s : State) : Prop :=
  s.rstn = false →
    s.straps = Straps.unsampled ∧ s.ports = {} ∧ s.queue = {} ∧ s.reads = {} ∧ s.drain = {} ∧ s.link = {}
      ∧ { s.control with pfailLow := false } = {} ∧ s.shadow = ConfigSet.coldReset Straps.unsampled
      ∧ s.active = ConfigSet.coldReset Straps.unsampled ∧ s.faults = {} ∧ s.maint = {}

/-- The filter's timer runs exactly while the level on the pin differs from the filtered level and RSTn is high (08 R160). -/
def State.FilterLawful (s : State) : Prop :=
  s.control.filterTimer = (s.rstn && (s.control.pfailLow != s.control.filtered))

/-! ### The conditions under which a command has its effect -/

/-- The mode lets the drain engine take and request: RUNNING, APPLYING, or PF_DRAIN with a budget of at least 2 (04 R69, R72). -/
def State.DrainAllowed (s : State) : Prop :=
  s.control.mode = .running ∨ s.control.mode = .applying ∨ (s.control.mode = .pfDrain ∧ 2 ≤ s.control.budget)

/-- The modes in which a begun read is classified at once (01 R12). -/
def Mode.ReadsAtOnce (m : Mode) : Prop :=
  m = .running ∨ m = .applying ∨ m = .pfDrain ∨ m = .pfDone ∨ m = .resuming

/-- The power-fail modes, which refuse a begun write (01 R12). -/
def Mode.PowerFail (m : Mode) : Prop := m = .pfDrain ∨ m = .pfDone ∨ m = .resuming

/-- A host access that a port sees begin: RSTn high, the port IDLE, a strobe low and held for 50 ns (01 R1). -/
structure State.SeesBegin (s : State) (p : Port) (we oe held : Bool) : Prop where
  high : s.rstn = true
  idle : (s.port p).state = .idle
  strobe : (we || oe) = true
  long : held = true

/-- The record of a port that has just captured an access (01 R1). -/
def State.captured (s : State) (acc : Access) : PortRec :=
  { state := .modeStall, access := some acc, stallTimer := some s.stallLimit }

/-- The record of a port that has completed the access (01 R4). -/
def endingOf (acc : Access) (error : Bool) (data : Option (BitVec 16)) : PortRec :=
  { state := .ending, access := some acc, error := error, dataOut := data }

/-- A program operation of the buffer holds the link and is being polled after a page write (04 R77, 05 R99). -/
structure State.PollsProgram (s : State) (b : Buf) : Prop where
  high : s.rstn = true
  holder : s.link.holder = some (.program b)
  wire : s.link.wire = some .readStatus
  judged : s.link.stale = false
  written : s.link.settling = false

/-- A program operation of the buffer waits for its verify read (04 R78). -/
structure State.Verifies (s : State) (b : Buf) (bytes : List Byte) : Prop where
  high : s.rstn = true
  holder : s.link.holder = some (.program b)
  state : (s.buf b).state = .verifying
  wire : ∃ addr, s.link.wire = some (.readData addr bytes.length)

/-- The program timer of a program operation runs (05 R99). -/
structure State.Times (s : State) (b : Buf) : Prop where
  high : s.rstn = true
  holder : s.link.holder = some (.program b)
  timer : s.link.programTimer.isSome = true

/-- The link after the READ-STATUS that ends the polling of an attempt or run (05 R99, R100). -/
def Link.polled (l : Link) : Link := { l with wire := none, quiet := true, programTimer := none }

/-- The link after the expiry of the program timer: a READ-STATUS still on the wire is no longer judged (05 R99). -/
def Link.expired (l : Link) : Link :=
  { l with stale := l.wire.isSome, queued := none, pollWait := false, settling := false, programTimer := none }

/-- The link, FREE (05 R97). -/
def Link.freed (l : Link) : Link :=
  { l with holder := none, pollWait := false, pinWait := false, settling := false, programTimer := none, settleTimer := false }

/-- The command ends a drain attempt of the buffer with a failure of the reason (04 R79); the link and the serial memory
as the command leaves them. -/
inductive State.AttemptFails (s : State) (b : Buf) : Instr → FailReason → Link → SerialMemory → Prop where
  | status (st : Byte) : s.PollsProgram b → statusBusy st = false → statusWriteFail st = true →
      s.AttemptFails b (.readStatusCompletion st) .statusFail s.link.polled (s.memory.sawStatus st s.now)
  | verify (bytes : List Byte) : s.Verifies b bytes → bytes ≠ (s.buf b).spanBytes →
      s.AttemptFails b (.verifyReadCompletion bytes) .verifyMismatch { s.link with wire := none } s.memory
  | timer : s.Times b → s.AttemptFails b .programTimerExpiry .timeout s.link.expired s.memory

/-- The command ends a drain attempt of the buffer with success (04 R79). -/
inductive State.AttemptSucceeds (s : State) (b : Buf) : Instr → Link → SerialMemory → Prop where
  | status (st : Byte) : s.PollsProgram b → statusBusy st = false → statusWriteFail st = false → s.verify = false →
      s.AttemptSucceeds b (.readStatusCompletion st) s.link.polled (s.memory.sawStatus st s.now)
  | verify : s.Verifies b (s.buf b).spanBytes →
      s.AttemptSucceeds b (.verifyReadCompletion (s.buf b).spanBytes) { s.link with wire := none } s.memory

/-- A marker write holds the link and is being polled after a page write (08 R156, 05 R99). -/
structure State.PollsMarker (s : State) : Prop where
  high : s.rstn = true
  holder : s.link.holder = some .markerWrite
  wire : s.link.wire = some .readStatus
  judged : s.link.stale = false
  written : s.link.settling = false

/-- The command ends the marker write's attempt with success (08 R156, 04 R79). -/
inductive State.MarkerSucceeds (s : State) : Instr → Link → SerialMemory → Prop where
  | status (st : Byte) : s.PollsMarker → statusBusy st = false → statusWriteFail st = false → s.verify = false →
      s.MarkerSucceeds (.readStatusCompletion st) s.link.polled (s.memory.sawStatus st s.now)
  | verify (addr : Nat) : s.rstn = true → s.link.holder = some .markerWrite →
      s.link.wire = some (.readData addr s.control.marker.record.encode.length) →
      s.MarkerSucceeds (.verifyReadCompletion s.control.marker.record.encode) { s.link with wire := none } s.memory

/-- The command ends the marker write's attempt with a failure of the reason (08 R156, 04 R79). -/
inductive State.MarkerFails (s : State) : Instr → FailReason → Link → SerialMemory → Prop where
  | status (st : Byte) : s.PollsMarker → statusBusy st = false → statusWriteFail st = true →
      s.MarkerFails (.readStatusCompletion st) .statusFail s.link.polled (s.memory.sawStatus st s.now)
  | verify (bytes : List Byte) (addr : Nat) : s.rstn = true → s.link.holder = some .markerWrite →
      s.link.wire = some (.readData addr bytes.length) → bytes ≠ s.control.marker.record.encode →
      s.MarkerFails (.verifyReadCompletion bytes) .verifyMismatch { s.link with wire := none } s.memory
  | timer : s.rstn = true → s.link.holder = some .markerWrite → s.link.programTimer.isSome = true →
      s.MarkerFails .programTimerExpiry .timeout s.link.expired s.memory

/-- A maintenance command that only reads, with the response it is given: STATUS, READ-MARKER-REPORT, READ-COUNTERS and
the two set reads (10 R195, R196; 09 R182; 07 R133). -/
inductive State.ReadsOnly (s : State) : Instr → List Byte → Prop where
  | status : s.ReadsOnly .status (respOk :: s.statusRecord)
  | report : s.ReadsOnly .readMarkerReport (respOk :: s.control.report.encode)
  | counters : s.ReadsOnly .readCounters (respOk :: s.faults.counters.encode)
  | active (i : Byte) : i.toNat < 9 → s.ReadsOnly (.readActive i) (respOk :: itemBytes (s.active.item i.toNat))
  | shadow (i : Byte) : i.toNat < 9 → s.ReadsOnly (.readShadow i) (respOk :: itemBytes (s.shadow.item i.toNat))
  | noActive (i : Byte) : 9 ≤ i.toNat → s.ReadsOnly (.readActive i) [respInvalid]
  | noShadow (i : Byte) : 9 ≤ i.toNat → s.ReadsOnly (.readShadow i) [respInvalid]

/-- A configuration item is bad, as a window item or as the globals item, by the fields of 10 R202 (07 R137). -/
def badItem (window : Prop) [Decidable window] (it : Item) : Prop :=
  if window then
    12 < itemExponent it ∨ ¬ 2 ^ itemExponent it ∣ itemBase it ∨ 3 < itemClassCode it
      ∨ itemPortCode it = 0 ∨ 3 < itemPortCode it
  else
    255 < globalsWindow it ∨ globalsHwm it = 0 ∨ 24 < globalsHwm it ∨ 7 < globalsStallCode it
      ∨ globalsTimeout it = 0 ∨ 31 < globalsTimeout it ∨ globalsRetryLimit it = 0 ∨ 4 < globalsRetryLimit it
      ∨ 1 < globalsVerifyCode it ∨ globalsBudget it < 2 ∨ 32 < globalsBudget it

/-- A direct operation's command with the operation it asks for: the kind, the line, the lane flags and the bytes (06 R118). -/
inductive AsksDirect : Instr → LongKind → BitVec 24 → BitVec 32 → List Byte → Prop where
  | id : AsksDirect .directId .directId 0 0 []
  | status : AsksDirect .directStatus .directStatus 0 0 []
  | read (line : BitVec 24) : AsksDirect (.directRead line) .directRead line 0 []
  | write (line : BitVec 24) (flags : BitVec 32) (data : List Byte) :
      AsksDirect (.directWrite line flags data) .directWrite line flags data

/-- The arguments of a direct operation pass the tests of 06 R118. -/
def State.directArgsOk (s : State) (k : LongKind) (line : BitVec 24) (flags : BitVec 32) : Prop :=
  match k with
  | .directRead => line.toNat * 32 < s.memoryBytes
  | .directWrite => line.toNat * 32 < s.memoryBytes ∧ pageOfLine line.toNat ≠ s.markerPage ∧ flags ≠ 0
  | .idle | .apply | .flush | .directId | .directStatus => True

/-! ### What a change of mode does to waiting accesses (01 R15, R16; 02 R41) -/

/-- The reads held in MODE_STALL are handed to read service, port A's first where both ports hold one (01 R16; log 31). -/
def State.readsHandedOn (s : State) : State :=
  match (s.port .A).stalledRead, (s.port .B).stalledRead with
  | true, true => (s.handRead .A).handRead .B
  | true, false => s.handRead .A
  | false, true => s.handRead .B
  | false, false => s

/-- The pending writes are offered, the earlier wait start first and port A's when they are the same (01 R15, 02 R41). -/
def State.writesOffered (s : State) : State :=
  match (s.port .A).pendingWrite, (s.port .B).pendingWrite with
  | true, true =>
    match (s.port .A).waitStart, (s.port .B).waitStart with
    | some wa, some wb => if wb < wa then (s.offerWrite .B).offerWrite .A else (s.offerWrite .A).offerWrite .B
    | _, _ => (s.offerWrite .A).offerWrite .B
  | true, false => s.offerWrite .A
  | false, true => s.offerWrite .B
  | false, false => s

/-- The pending writes end with an error, each counted in PF_REFUSED, and no record is made (01 R16). -/
def State.writesRefused (s : State) : State :=
  { s with
    ports :=
      { a := if (s.port .A).pendingWrite then (s.port .A).completed true none else s.port .A
        b := if (s.port .B).pendingWrite then (s.port .B).completed true none else s.port .B }
    faults := { s.faults with counters := { s.faults.counters with
      pfRefused := s.faults.counters.pfRefused
        + BitVec.ofNat 32 (bit (s.port .A).pendingWrite + bit (s.port .B).pendingWrite) } } }

/-! ### Requests of the drain engine and of the control block (04 R72, 08 R166) -/

/-- A drain request of the buffer is eligible: FILLED, the drain runs, no fetch pins its page, and the other buffer does not
carry the same page with an older stamp while FILLED or in a program operation (04 R72, 05 R108). -/
structure State.DrainMayGo (s : State) (b : Buf) : Prop where
  filled : (s.buf b).state = .filled
  runs : s.DrainAllowed
  free : ∀ f ∈ s.reads.fetches, pageOf (evenAddr f.addr) ≠ (s.buf b).page
  first : ¬ ((s.buf b.other).page = (s.buf b).page ∧ (s.buf b.other).stamp < (s.buf b).stamp
    ∧ ((s.buf b.other).state = .filled ∨ (s.buf b.other).state = .gapRead ∨ (s.buf b.other).state = .programming
      ∨ (s.buf b.other).state = .verifying))

/-- The condition of the PF_DRAIN marker write: the budget is 1, or the drain is finished (08 R166). -/
def State.MarkerDue (s : State) : Prop :=
  s.control.budget = 1
    ∨ (∀ b, (s.buf b).state = .free ∨ (s.buf b).state = .held)
      ∧ (s.queue.entries = [] ∨ (∀ b, (s.buf b).state = .held) ∨ ∀ b, (s.buf b).state ≠ .free)

/-! ### The steps of the work that ends an event, in the order of log 12 -/

/-- The held-back fetch enters the list where no fetch of its port is in it (03 R55). -/
inductive State.HeldBackEnters (s : State) : State → Prop where
  | enters (f : Fetch) : s.reads.heldBack = some f → (∀ g ∈ s.reads.fetches, g.port ≠ f.port) →
      s.HeldBackEnters (s.setReads ⟨s.reads.fetches ++ [f], none⟩)
  | stays : (∀ f, s.reads.heldBack = some f → ∃ g ∈ s.reads.fetches, g.port = f.port) → s.HeldBackEnters s

/-- A pin wait ends where no fetch pins the page any more, and WRITE-ENABLE is issued (05 R109). -/
inductive State.PinWaitEnds (s : State) : State → Prop where
  | ends (page : Nat) : s.link.pinWait = true → s.holderPage = some page → s.pinned page = false →
      s.PinWaitEnds ((s.setLink { s.link with pinWait := false }).issue .writeEnable)
  | stays : (s.link.pinWait = true → ∀ page, s.holderPage = some page → s.pinned page = true) → s.PinWaitEnds s

/-- The FLUSH in the slot is judged: it completes, with nothing left at or before its mark or with what the drain cannot
move, or it goes on (07 R145, R146). -/
inductive State.FlushJudged (s : State) : State → Prop where
  | noFlush : s.maint.slot ≠ .flush → s.FlushJudged s
  | done : s.maint.slot = .flush → s.flushRemains = false → s.FlushJudged (s.completeLong
      (if s.control.flushDiscard then .blockedHeld else .ok) (be24 s.control.flushMark ++ [0]))
  | blocked : s.maint.slot = .flush → s.flushRemains = true → s.flushBlocked = true → s.FlushJudged (s.completeLong
      .blockedHeld (be24 s.control.flushMark ++ [BitVec.ofNat 8 s.flushLines]))
  | goesOn : s.maint.slot = .flush → s.flushRemains = true → s.flushBlocked = false → s.FlushJudged s

/-- In PF_DRAIN the marker write is requested exactly while its condition holds and it has not been granted (08 R166). -/
inductive State.MarkerFollows (s : State) : State → Prop where
  | elsewhere : s.control.mode ≠ .pfDrain → s.MarkerFollows s
  | due : s.control.mode = .pfDrain → s.MarkerDue → s.link.holder ≠ some .markerWrite →
      s.MarkerFollows (s.setControl { s.control with request := some .markerWrite })
  | notDue : s.control.mode = .pfDrain → ¬ s.MarkerDue ∨ s.link.holder = some .markerWrite →
      s.MarkerFollows (s.setControl { s.control with request := none })

/-! ### What the part retains (07 R145, R146; 08 R167) -/

/-- The first sequence number is at or before the mark of the FLUSH (07 R145). -/
def State.Judged (s : State) (x : Seq) : Prop :=
  (s.queue.counter - s.control.flushMark).toNat ≤ (s.queue.counter - x).toNat

/-- The buffer carries bytes of the line (04 R66). -/
def PageBuffer.Carries (b : PageBuffer) (line : Nat) : Prop :=
  b.state ≠ .free ∧ ∃ c ∈ b.bytes, line = b.page * 8 + c.1 / 32

/-- The lines of the entries and buffers so judged, each once (07 R146). -/
structure State.JudgedLines (s : State) (lines : List Nat) : Prop where
  once : lines.Nodup
  those : ∀ l, l ∈ lines ↔ (∃ e ∈ s.queue.entries, s.Judged e.firstSeq ∧ e.line = l)
    ∨ ∃ b, s.Judged (s.buf b).firstSeq ∧ (s.buf b).Carries l

/-- The drain engine can make no further progress on what is judged: HALTED, or the held remainder (07 R146). -/
def State.NoProgress (s : State) : Prop :=
  (∀ b, (s.buf b).state = .held)
    ∨ (∀ e ∈ s.queue.entries, ¬ s.Judged e.firstSeq)
      ∧ ∀ b, (s.buf b).state ≠ .free → s.Judged (s.buf b).firstSeq →
        (s.buf b).state = .held ∧ (∀ e ∈ s.queue.entries, pageOfLine e.line ≠ (s.buf b).page)
          ∧ ((s.buf b.other).page = (s.buf b).page → (s.buf b.other).state = .free ∨ (s.buf b.other).state = .held)

/-- The number of the first write of an entry or buffer that is retained (08 R167). -/
def State.Retains (s : State) (x : Seq) : Prop :=
  (∃ e ∈ s.queue.entries, e.firstSeq = x) ∨ ∃ b, (s.buf b).state ≠ .free ∧ (s.buf b).firstSeq = x

/-- The record that the PF_DRAIN marker write fixes at its grant (08 R167). -/
structure State.IsDrainRecord (s : State) (r : MarkerRecord) : Prop where
  clean : s.queue.entries = [] → (∀ b, (s.buf b).state = .free) → r.state = .clean ∧ r.firstSeq = 0
  truncated : (s.queue.entries ≠ [] ∨ ∃ b, (s.buf b).state ≠ .free) → r.state = .truncated ∧ s.Retains r.firstSeq
    ∧ ∀ x, s.Retains x → (s.queue.counter - x).toNat ≤ (s.queue.counter - r.firstSeq).toNat
  atRisk : ∃ lines : List Nat, lines.Nodup ∧ r.atRisk = BitVec.ofNat 8 lines.length
    ∧ ∀ l, l ∈ lines ↔ (∃ e ∈ s.queue.entries, e.line = l) ∨ ∃ b, (s.buf b).Carries l
  lastSeq : r.lastSeq = s.queue.counter
  bootCount : r.bootCount = s.control.bootCount
  epoch : r.epoch = s.control.epoch

end Sys2Proof.Machine
end

