-- ==== Sys2Proof/Certificates/Slice0/Obligations.lean ====
section
/-! DEFINITION. The statements for the provers.  Where a statement gives the next state as `u.endEvent`, u is the command's
own effect, written out, and `endEvent` is the work that ends an event (log 11, log 12): EndOfEventFrame states its steps and
its frame. -/

section
open Sys2Proof Sys2Proof.Machine

/-! ### The machine as a whole -/

/-- A step takes the command at the front of the queue and gives it its effect on the state with the queue's rest; on an
empty queue the block idles (log 6, log 30: the model's interface). -/
def Obligations.StepRunsFrontCommand : Prop :=
  (∀ (c : Instr) (rest : List Instr) (s : State), step (s.setPending (c :: rest)) = exec c (s.setPending rest))
    ∧ ∀ s : State, s.pending = [] → step s = .next s

/-- What cold reset leaves: the state after reset of each chapter (01, 02, 03, 04, 05, 08, 09, 10), which meets every
law that a step keeps. The model's choice: log 1, log 2, log 3. -/
def Obligations.ResetLeavesColdResetState : Prop :=
  State.reset.rstn = false
    ∧ (∀ p, (State.reset.port p).state = .idle ∧ (State.reset.port p).access = none
        ∧ (State.reset.port p).stallTimer = none ∧ State.reset.waitLow p = false ∧ State.reset.berrLow p = false)
    ∧ State.reset.queue.entries = [] ∧ State.reset.queue.counter = 0
    ∧ State.reset.reads.fetches = [] ∧ State.reset.reads.heldBack = none
    ∧ (∀ b, (State.reset.buf b).state = .free ∧ (State.reset.buf b).bytes = [] ∧ (State.reset.buf b).attempts = 0)
    ∧ State.reset.drain.next = .pb0 ∧ State.reset.drain.partner = none ∧ State.reset.halted = false
    ∧ State.reset.link.holder = none ∧ State.reset.mcsLow = false ∧ State.reset.link.quiet = false
    ∧ State.reset.link.programTimer = none ∧ State.reset.maint.direct.waiting = false
    ∧ State.reset.control.mode = .starting ∧ State.reset.control.bootCount = 0 ∧ State.reset.control.budget = 0
    ∧ State.reset.control.report = {} ∧ State.reset.control.stopPending = false
    ∧ State.reset.control.resumePending = false ∧ State.reset.control.fromStarting = false
    ∧ State.reset.control.filtered = false ∧ State.reset.control.probeTimer = false ∧ State.reset.control.epoch = 0
    ∧ State.reset.faults.list = [] ∧ State.reset.faults.overflow = 0 ∧ State.reset.faults.counters = {}
    ∧ State.reset.irqLow = false
    ∧ State.reset.maint.slot = .idle ∧ State.reset.maint.ready = false ∧ State.reset.maint.frameErrors = 0
    ∧ State.reset.queue.Lawful ∧ State.reset.BytesLawful ∧ State.reset.link.Lawful ∧ State.reset.OneProgram
    ∧ State.reset.faults.Lawful ∧ State.reset.ConfigLawful ∧ State.reset.reads.Lawful
    ∧ State.reset.HeldInReset ∧ State.reset.FilterLawful ∧ memWf State.reset.memory.cells = true

/-- While RSTn is low the part ignores every command but the rise of RSTn and the level on the PFAILn pin, which only the
pin follows (01 R6, 08 R160, 10 R189, 11 R206; log 5). -/
def Obligations.NothingMovesInReset : Prop :=
  ∀ (s : State) (c : Instr), s.rstn = false →
    (c = .pfailnFall → exec c s = .next (if s.control.pfailLow then s
        else s.setControl { s.control with pfailLow := true, filterTimer := false }))
    ∧ (c = .pfailnRise → exec c s = .next (if s.control.pfailLow
        then s.setControl { s.control with pfailLow := false, filterTimer := false } else s))
    ∧ (c ≠ .pfailnFall → c ≠ .pfailnRise → (∀ a b d e f g, c ≠ .rstnRise a b d e f g) → exec c s = .next s)

/-- The work that ends an event: a held-back fetch enters the list where no fetch of its port is in it (03 R55), a pin wait
that has nothing to wait for ends with its WRITE-ENABLE (05 R109), the FLUSH in the slot is judged (07 R145, R146), in
PF_DRAIN the marker request follows its condition (08 R166), and on what that leaves the arbiter makes its decision, in the
same event (05 R104; ArbiterGrantsChosenOrSettles says what it does).  What that work leaves as it is: the ports, the queue, the fault unit, both sets, the memory, the
mode, the epoch, the budget and every buffer that is not FILLED; a link that is held keeps its holder. The model's
choice: log 12. -/
def Obligations.EndOfEventFrame : Prop :=
  (∀ s a b c d : State, s.rstn = true → s.HeldBackEnters a → a.PinWaitEnds b → b.FlushJudged c → c.MarkerFollows d →
    exec .arbiterDecision d = .next s.endEvent)
  ∧ (∀ s : State, (∃ a, s.HeldBackEnters a) ∧ (∃ b, s.PinWaitEnds b) ∧ (∃ c, s.FlushJudged c) ∧ ∃ d, s.MarkerFollows d)
  ∧ ∀ s : State,
    s.endEvent.rstn = s.rstn ∧ s.endEvent.straps = s.straps ∧ s.endEvent.ports = s.ports ∧ s.endEvent.queue = s.queue
      ∧ s.endEvent.shadow = s.shadow ∧ s.endEvent.active = s.active ∧ s.endEvent.faults = s.faults
      ∧ s.endEvent.memory = s.memory ∧ s.endEvent.pending = s.pending ∧ s.endEvent.now = s.now + 1
      ∧ s.endEvent.control.mode = s.control.mode ∧ s.endEvent.control.epoch = s.control.epoch
      ∧ s.endEvent.control.budget = s.control.budget ∧ s.endEvent.control.report = s.control.report
      ∧ s.endEvent.control.filtered = s.control.filtered ∧ s.endEvent.control.flushMark = s.control.flushMark
      ∧ s.endEvent.maint.response = s.maint.response ∧ s.endEvent.maint.frameErrors = s.maint.frameErrors
      ∧ s.endEvent.drain.next = s.drain.next
      ∧ (∀ b, (s.buf b).state ≠ .filled → s.endEvent.buf b = s.buf b)
      ∧ (∀ op, s.link.holder = some op → s.endEvent.link.holder = some op ∧ s.endEvent.drain = s.drain)

/-! ### Host ports and address windows -/

/-- An access begun with neither lane enabled completes at once and reaches no other block; a read returns the fill
value (01 R2). The model's choice: log 12. -/
def Obligations.NoLaneAccessCompletes : Prop :=
  ∀ (s : State) (p : Port) (we oe held : Bool) (addr : BitVec 23) (data : BitVec 16), s.SeesBegin p we oe held →
    exec (.hostAccessBegin p we oe addr false false data held) s
      = .next (s.setPort p (endingOf ⟨we, addr, false, false, data⟩ false (if we then none else some s.fill))).endEvent

/-- What the bridge mode does with an access begun in it that it neither classifies nor offers (01 R12): it is held in
MODE_STALL in STARTING and, a write, in APPLYING; a write is refused and counted in the power-fail modes; every access is
refused in FAILED. -/
def Obligations.AccessHeldOrRefusedByMode : Prop :=
  ∀ (s : State) (p : Port) (we oe held lower upper : Bool) (addr : BitVec 23) (data : BitVec 16),
    s.SeesBegin p we oe held → (lower || upper) = true →
    (s.control.mode = .starting →
      exec (.hostAccessBegin p we oe addr lower upper data held) s
        = .next (s.setPort p { s.captured ⟨we, addr, lower, upper, data⟩ with
            waitStart := if we then some s.now else none }).endEvent)
    ∧ (s.control.mode = .applying → we = true →
      exec (.hostAccessBegin p we oe addr lower upper data held) s
        = .next (s.setPort p { s.captured ⟨we, addr, lower, upper, data⟩ with waitStart := some s.now }).endEvent)
    ∧ (s.control.mode.PowerFail → we = true →
      exec (.hostAccessBegin p we oe addr lower upper data held) s
        = .next ((s.setPort p (endingOf ⟨we, addr, lower, upper, data⟩ true none)).countPfRefused).endEvent)
    ∧ (s.control.mode = .failed →
      exec (.hostAccessBegin p we oe addr lower upper data held) s
        = .next (s.setPort p (endingOf ⟨we, addr, lower, upper, data⟩ true (if we then none else some s.fill))).endEvent)

/-- Classification in the order of 01 R9: the marker page, an address above the memory or in no enabled window, and then
the matching window of lowest index, by its permission and its class; the bytes of a line that are classed have one class,
whichever port asks.  A window matches from base × 4,096 up to 4,096 × 2^k bytes on while it is enabled (01 R7); the fields
of a window item stand in the bytes of 10 R202, and the windows are items 0 to 7 in their order (07 R128). -/
def Obligations.ClassificationOrder : Prop :=
  (∀ (it : Item) (a : Nat),
    (windowMatches it a = true ↔
      itemEnable it = true ∧ itemBase it * 4096 ≤ a ∧ a < itemBase it * 4096 + 4096 * 2 ^ itemExponent it)
    ∧ (windowPermits it .A = true ↔ itemPortCode it = 1 ∨ itemPortCode it = 3)
    ∧ (windowPermits it .B = true ↔ itemPortCode it = 2 ∨ itemPortCode it = 3)
    ∧ (∀ c : AccessClass, itemClassCode it = (match c with
        | .posted => 0 | .ordered => 1 | .through => 2 | .readOnly => 3) → windowClass it = c)
    ∧ ∃ b0 b1 b2 b3 b4 b5 b6 b7 b8 b9 : Byte,
      it = b0 ++ b1 ++ b2 ++ b3 ++ b4 ++ b5 ++ b6 ++ b7 ++ b8 ++ b9
      ∧ itemBytes it = [b0, b1, b2, b3, b4, b5, b6, b7, b8, b9]
      ∧ itemEnable it = b0.getLsbD 0 ∧ itemBase it = b1.toNat % 16 * 256 + b2.toNat ∧ itemExponent it = b3.toNat
      ∧ itemClassCode it = b4.toNat ∧ itemPortCode it = b5.toNat)
  ∧ (∀ (a : Nat) (h : BitVec 23), lineOf a = a / 32 ∧ pageOf a = a / 256 ∧ pageOfLine (lineOf a) = pageOf a
    ∧ evenAddr h = 2 * h.toNat ∧ (evenAddr24 h).toNat = 2 * h.toNat)
  ∧ ∀ (s : State) (p : Port) (write : Bool) (a : Nat),
    s.active.windows = (List.range 8).map s.active.item
    ∧ (pageOf a = s.markerPage → s.classify p write a = .refused .markerPage)
    ∧ (pageOf a ≠ s.markerPage → s.memoryBytes ≤ a → s.classify p write a = .refused .unmapped)
    ∧ (pageOf a ≠ s.markerPage → (∀ it ∈ s.active.windows, windowMatches it a = false) →
        s.classify p write a = .refused .unmapped)
    ∧ (∀ (q : Port) (write' : Bool) (a' : Nat) (c c' : AccessClass), lineOf a = lineOf a' →
        s.classify p write a = .classed c → s.classify q write' a' = .classed c' → c = c')
    ∧ ∀ (w : Nat) (it : Item), pageOf a ≠ s.markerPage → a < s.memoryBytes → s.active.windows[w]? = some it →
        windowMatches it a = true → (∀ v < w, ∀ jt, s.active.windows[v]? = some jt → windowMatches jt a = false) →
        (windowPermits it p = false → s.classify p write a = .refused .notPermitted)
        ∧ (windowPermits it p = true → write = true → windowClass it = .readOnly →
            s.classify p write a = .refused .readOnly)
        ∧ (windowPermits it p = true → (write = false ∨ windowClass it ≠ .readOnly) →
            s.classify p write a = .classed (windowClass it))

/-- An access refused by classification ends at once with an error and its fault record; a read drives the fill value
(01 R10, R11).  The record's detail is the code of the reason in 10 R203, and its source the port.
The model's choice: log 33 (the unassigned bits). -/
def Obligations.RefusedAccessRecordsFault : Prop :=
  (∀ r : RefusalReason, r.code.toNat = (match r with
    | .unmapped => 0 | .markerPage => 1 | .notPermitted => 2 | .readOnly => 3))
  ∧ (∀ p : Port, portSource p = (match p with
    | .A => .portA | .B => .portB))
  ∧ ∀ (s : State) (p : Port) (we oe held lower upper : Bool) (addr : BitVec 23) (data : BitVec 16) (r : RefusalReason),
    s.SeesBegin p we oe held → (lower || upper) = true → s.classify p we (evenAddr addr) = .refused r →
    (we = true → s.control.mode = .running) → (we = false → s.control.mode.ReadsAtOnce) →
    exec (.hostAccessBegin p we oe addr lower upper data held) s
      = .next ((s.setPort p (endingOf ⟨we, addr, lower, upper, data⟩ true (if we then none else some s.fill))).addFault
          { kind := if we then .writeRefused else .readRefused, source := portSource p, epoch := s.control.epoch,
            address := some (evenAddr24 addr), retained := if we then some false else none, detail := r.code }).endEvent

/-- A write begun in RUNNING gets the queue's answer (01 R13, 02 R27): a POSTED or ORDERED write that is accepted
completes, an accepted THROUGH write waits with its number, and a write with no slot becomes the pending write. -/
def Obligations.OfferedWriteGetsAnswer : Prop :=
  ∀ (s : State) (p : Port) (we oe held lower upper : Bool) (addr : BitVec 23) (data : BitVec 16) (c : AccessClass)
    (ans : Answer) (q : Queue),
    s.SeesBegin p we oe held → we = true → (lower || upper) = true → s.control.mode = .running →
    s.classify p true (evenAddr addr) = .classed c →
    s.queue.offer (Access.offer ⟨we, addr, lower, upper, data⟩ p c) s.coalesceWindow s.hwm = (ans, q) →
    (ans = .noSlot → exec (.hostAccessBegin p we oe addr lower upper data held) s
      = .next (s.setPort p { s.captured ⟨we, addr, lower, upper, data⟩ with
          state := .slotWait, waitStart := some s.now }).endEvent)
    ∧ (ans = .allocated → c ≠ .through → exec (.hostAccessBegin p we oe addr lower upper data held) s
      = .next (((s.setQueue q).countWriteAccepted).setPort p
          (endingOf ⟨we, addr, lower, upper, data⟩ false none)).endEvent)
    ∧ (ans = .merged → c ≠ .through → exec (.hostAccessBegin p we oe addr lower upper data held) s
      = .next (((s.setQueue q).countWriteAccepted.countMerge).setPort p
          (endingOf ⟨we, addr, lower, upper, data⟩ false none)).endEvent)
    ∧ (ans = .allocated → c = .through → exec (.hostAccessBegin p we oe addr lower upper data held) s
      = .next (((s.setQueue q).countWriteAccepted).setPort p { s.captured ⟨we, addr, lower, upper, data⟩ with
          state := .throughWait, seq := some q.counter }).endEvent)

/-- A read that its mode classifies at once is looked up in its own event: with every enabled lane found it completes, a
disabled lane taking fill, and otherwise its fetch enters the list, or is held back behind its port's orphaned fetch
(01 R14; 03 R48, R50, R51, R55).  The lookup of a byte finds it in the youngest entry that holds it, else in the younger
of the buffers that carry its page and hold it, else in the older one; a FREE buffer shows nothing (02 R44; 03 R49). The model's choice: log 22 (the
younger is the one of the larger stamp). -/
def Obligations.AcceptedReadIsLookedUp : Prop :=
  (∀ (q : Queue) (a : Nat),
    ((∀ e ∈ q.entries, e.line = a / 32 → cellsGet e.bytes (a % 32) = none) → q.lookup a = none)
    ∧ ∀ (older younger : List Entry) (e : Entry) (v : Byte), q.entries = older ++ e :: younger → e.line = a / 32 →
      cellsGet e.bytes (a % 32) = some v → (∀ f ∈ younger, f.line = a / 32 → cellsGet f.bytes (a % 32) = none) →
      q.lookup a = some v)
  ∧ (∀ (s : State) (a : Nat) (b : Buf) (x y : Option Byte), (s.buf b.other).stamp < (s.buf b).stamp
      ∨ (s.buf b).state = .free ∨ (s.buf b.other).state = .free →
    x = (if (s.buf b).state ≠ .free ∧ (s.buf b).page = a / 256 then cellsGet (s.buf b).bytes (a % 256) else none) →
    y = (if (s.buf b.other).state ≠ .free ∧ (s.buf b.other).page = a / 256
      then cellsGet (s.buf b.other).bytes (a % 256) else none) →
    s.lookup a = ((s.queue.lookup a).or x).or y)
  ∧ ∀ (s : State) (p : Port) (oe held lower upper : Bool) (addr : BitVec 23) (data : BitVec 16) (c : AccessClass)
    (lo up : Option Byte),
    s.SeesBegin p false oe held → (lower || upper) = true → s.control.mode.ReadsAtOnce →
    s.classify p false (evenAddr addr) = .classed c →
    lo = (if lower then s.lookup (evenAddr addr) else none) →
    up = (if upper then s.lookup (evenAddr addr + 1) else none) →
    ((lower = true → lo.isSome = true) → (upper = true → up.isSome = true) →
      exec (.hostAccessBegin p false oe addr lower upper data held) s
        = .next (s.setPort p (endingOf ⟨false, addr, lower, upper, data⟩ false
            (some (up.getD (globalsFillUpper s.active.globals) ++ lo.getD (globalsFillLower s.active.globals))))).endEvent)
    ∧ ((lower = true ∧ lo = none) ∨ (upper = true ∧ up = none) →
      ∀ f : Fetch,
        f = { port := p, addr := addr, needLower := lower && lo.isNone, needUpper := upper && up.isNone,
              capturedLower := lo, capturedUpper := up, order := s.now, state := .waiting, orphaned := false } →
        exec (.hostAccessBegin p false oe addr lower upper data held) s
          = .next ((s.setReads (if s.reads.fetches.any (fun g => g.port == p) then { s.reads with heldBack := some f }
              else { s.reads with fetches := s.reads.fetches ++ [f] })).setPort p
              { s.captured ⟨false, addr, lower, upper, data⟩ with state := .fetchWait }).endEvent)

/-- The host's end of a completed access: the port releases its data lines and xBERRn, discards the access and is IDLE;
nothing else changes (01 R4).  Until then the port sees no other begin: one on a port that is not IDLE, or without a strobe,
does nothing, and one held for less than 50 ns begins the access or passes unseen (01 R1).  xWAITn is low exactly in the four waiting states
and xBERRn exactly in ENDING after an error (01 R3, R4). The model's choice: log 5, log 8. -/
def Obligations.AccessEndFreesPort : Prop :=
  (∀ (s : State) (p : Port),
    (s.waitLow p = true ↔ (s.port p).state = .modeStall ∨ (s.port p).state = .slotWait ∨ (s.port p).state = .fetchWait
      ∨ (s.port p).state = .throughWait)
    ∧ (s.berrLow p = true ↔ (s.port p).state = .ending ∧ (s.port p).error = true))
  ∧ (∀ (s : State) (p : Port), s.rstn = true → (s.port p).state = .ending →
    exec (.hostAccessEnd p) s = .next (s.setPort p {})
      ∧ ((s.setPort p {}).port p).state = .idle ∧ ((s.setPort p {}).port p).access = none
      ∧ ((s.setPort p {}).port p).dataOut = none ∧ (s.setPort p {}).berrLow p = false)
  ∧ ∀ (s : State) (p : Port) (we oe lower upper : Bool) (addr : BitVec 23) (data : BitVec 16), s.rstn = true →
    ((s.port p).state ≠ .idle ∨ (we = false ∧ oe = false) → ∀ held,
      exec (.hostAccessBegin p we oe addr lower upper data held) s = .next s)
    ∧ ((s.port p).state = .idle → (we = true ∨ oe = true) →
      exec (.hostAccessBegin p we oe addr lower upper data false) s
        = if Config.shortStrobeSeen s.now = true then exec (.hostAccessBegin p we oe addr lower upper data true) s
          else .next s.tick)

/-- The end of a wait, by stall expiry (01 R18) or by withdrawal (01 R5): its STALL_EXPIRED record and its count, the port
ENDING with an error or IDLE, a THROUGH port removed from the waiters (02 R33, 04 R87).  In read service the port's
held-back fetch is dropped, or else its WAITING fetch leaves the list and its ON_LINK one is orphaned (03 R55).  A THROUGH
port leaves the waiters of every entry and of both buffers, and nothing else changes there.
The model's choice: log 33 (the unassigned bits). -/
def Obligations.WaitEndsByExpiryOrWithdrawal : Prop :=
  (∀ (r : ReadService) (p : Port),
    (∀ f, r.heldBack = some f → f.port = p → r.stopWaiting p = { r with heldBack := none })
    ∧ ((∀ f, r.heldBack = some f → f.port ≠ p) →
        (r.stopWaiting p).heldBack = r.heldBack
        ∧ (∀ f ∈ r.fetches, f.port ≠ p → f ∈ (r.stopWaiting p).fetches)
        ∧ (∀ f ∈ r.fetches, f.port = p → f.state = .onLink →
            { f with orphaned := true } ∈ (r.stopWaiting p).fetches)
        ∧ ∀ f ∈ (r.stopWaiting p).fetches, f.port = p → f.state = .onLink ∧ f.orphaned = true))
  ∧ (∀ (s u : State) (p : Port), u = s.dropWaiter p →
    (∀ (i : Nat) (e : Entry), s.queue.entries[i]? = some e → u.queue.entries[i]? = some { e with
        waiters := ⟨e.waiters.a && decide (p ≠ .A), e.waiters.b && decide (p ≠ .B)⟩ })
    ∧ u.queue.entries.length = s.queue.entries.length ∧ u.queue.counter = s.queue.counter
    ∧ (∀ b, u.buf b = { s.buf b with
        waiters := ⟨(s.buf b).waiters.a && decide (p ≠ .A), (s.buf b).waiters.b && decide (p ≠ .B)⟩ })
    ∧ { u.drain with pb0 := s.drain.pb0, pb1 := s.drain.pb1 } = s.drain
    ∧ { u with queue := s.queue, drain := s.drain } = s)
  ∧ ∀ (s u : State) (p : Port) (acc : Access) (code : Byte),
    s.rstn = true → (s.port p).access = some acc →
    ((s.port p).state = .modeStall ∧ u = s ∧ code = (if acc.write then 1 else 0)
      ∨ (s.port p).state = .slotWait ∧ u = s ∧ code = 2
      ∨ (s.port p).state = .fetchWait ∧ u = s.setReads (s.reads.stopWaiting p) ∧ code = 3
      ∨ (s.port p).state = .throughWait ∧ u = s.dropWaiter p ∧ code = 4) →
    ∀ record : FaultRecord,
      record = { kind := .stallExpired, source := portSource p, epoch := s.control.epoch,
                 address := some (evenAddr24 acc.addr),
                 seq := if (s.port p).state = .throughWait then (s.port p).seq else none,
                 retained := if acc.write then some (decide ((s.port p).state = .throughWait)) else none,
                 detail := code } →
      ((s.port p).stallTimer.isSome = true →
        exec (.stallTimerExpiry p) s
          = .next (((u.setPort p { s.port p with
              state := .ending, waitStart := none, stallTimer := none, error := true,
              dataOut := if acc.write then none else some s.fill }).addFault record).countStall).endEvent)
      ∧ exec (.withdrawal p) s
          = .next (((u.setPort p {}).addFault { record with detail := code ||| 0x80 }).countStall).endEvent

/-- What a change of mode does to the accesses that still wait (01 R16): from STARTING into RUNNING the reads are handed on
and then the writes are offered, into PF_DONE the writes are refused and the reads handed on, and into FAILED every one ends
with an error and no record; from APPLYING into RUNNING the writes are offered, and from RUNNING or APPLYING into PF_DRAIN
they are refused.  PORT_MODE_CHANGE does the same with what is left.  A read handed on is refused by classification, or
completes, or enters its fetch (01 R14; 03 R48 to R51). A pending write is a write in
MODE_STALL or SLOT_WAIT (01 R3). The model's choice: log 11, log 31,
log 33 (the unassigned bits). -/
def Obligations.ModeChangeActsOnWaits : Prop :=
  (∀ r : PortRec,
    (r.pendingWrite = true ↔ (r.state = .modeStall ∨ r.state = .slotWait) ∧ ∃ acc, r.access = some acc ∧ acc.write = true)
    ∧ (r.stalledRead = true ↔ r.state = .modeStall ∧ ∃ acc, r.access = some acc ∧ acc.write = false)
    ∧ (r.reads = true ↔ ∃ acc, r.access = some acc ∧ acc.write = false)
    ∧ (r.writes = true ↔ ∃ acc, r.access = some acc ∧ acc.write = true))
  ∧ (∀ (s u : State) (new : Mode), u = s.setControl (s.changeMode new).control →
    (s.control.mode = .starting →
      (new = .running → s.changeMode new = u.readsHandedOn.writesOffered)
      ∧ (new = .pfDone → s.changeMode new = u.writesRefused.readsHandedOn)
      ∧ (new = .failed → { s.changeMode new with ports := s.ports } = u
        ∧ ∀ p, (s.changeMode new).port p = if (s.port p).pendingWrite || (s.port p).stalledRead
          then (s.port p).completed true (if (s.port p).reads then some s.fill else none) else s.port p))
    ∧ (s.control.mode = .applying → new = .running → s.changeMode new = u.writesOffered)
    ∧ (s.control.mode = .running ∨ s.control.mode = .applying → new = .pfDrain → s.changeMode new = u.writesRefused)
    ∧ (¬ (s.control.mode = .starting ∧ (new = .running ∨ new = .pfDone ∨ new = .failed)) →
      ¬ (s.control.mode = .applying ∧ new = .running) →
      ¬ ((s.control.mode = .running ∨ s.control.mode = .applying) ∧ new = .pfDrain) → s.changeMode new = u))
  ∧ (∀ s : State, s.rstn = true →
    (s.control.mode = .failed → ∃ t, exec .portModeChange s = .next t ∧ t.queue = s.queue ∧ t.faults = s.faults
      ∧ ∀ p, t.port p = if (s.port p).pendingWrite || (s.port p).stalledRead
          then (s.port p).completed true (if (s.port p).reads then some s.fill else none) else s.port p)
    ∧ (s.control.mode = .pfDrain → exec .portModeChange s = .next s.writesRefused.endEvent)
    ∧ (s.control.mode = .pfDone → exec .portModeChange s = .next s.writesRefused.readsHandedOn.endEvent)
    ∧ (s.control.mode = .running →
      (s.queue.entries.length < 24 ∨ (∃ p, (s.port p).state = .modeStall ∧ (s.port p).reads = false) →
        exec .portModeChange s = .next s.readsHandedOn.writesOffered.endEvent)
      ∧ (24 ≤ s.queue.entries.length → (∀ p, (s.port p).state = .modeStall → (s.port p).reads = true) →
        exec .portModeChange s = .next s.readsHandedOn.endEvent))
    ∧ (s.control.mode = .starting ∨ s.control.mode = .applying ∨ s.control.mode = .resuming →
      exec .portModeChange s = .next s.endEvent))
  ∧ ∀ (s : State) (p : Port) (acc : Access), (s.port p).access = some acc → acc.write = false →
    (∀ r, s.classify p false (evenAddr acc.addr) = .refused r →
      s.handRead p = (s.setPort p ((s.port p).completed true (some s.fill))).addFault
        { kind := .readRefused, source := portSource p, epoch := s.control.epoch, address := some (evenAddr24 acc.addr),
          detail := r.code })
    ∧ ∀ (c : AccessClass) (lo up : Option Byte), s.classify p false (evenAddr acc.addr) = .classed c →
      lo = (if acc.lower then s.lookup (evenAddr acc.addr) else none) →
      up = (if acc.upper then s.lookup (evenAddr acc.addr + 1) else none) →
      ((acc.lower = true → lo.isSome = true) → (acc.upper = true → up.isSome = true) →
        s.handRead p = s.setPort p ((s.port p).completed false
          (some (up.getD (globalsFillUpper s.active.globals) ++ lo.getD (globalsFillLower s.active.globals)))))
      ∧ ((acc.lower = true ∧ lo = none) ∨ (acc.upper = true ∧ up = none) → ∀ f : Fetch,
        f = { port := p, addr := acc.addr, needLower := acc.lower && lo.isNone, needUpper := acc.upper && up.isNone,
              capturedLower := lo, capturedUpper := up, order := s.now, state := .waiting, orphaned := false } →
        s.handRead p = (s.setReads (if s.reads.fetches.any (fun g => g.port == p) then { s.reads with heldBack := some f }
              else { s.reads with fetches := s.reads.fetches ++ [f] })).setPort p
            { s.port p with state := .fetchWait, waitStart := none })

/-! ### The posting queue -/

/-- The queue's answer to an offer, by class and by the line's OPEN entry (02 R27, R30 to R32): merged, allocated, or no
slot; no slot leaves the queue as it is, and the other two give the write the next number. -/
def Obligations.AcceptanceAnswers : Prop :=
  ∀ (q : Queue) (o : WriteOffer) (window hwm : Nat),
    (o.cls = .posted →
      ((∃ e ∈ q.entries, e.isOpen = true ∧ e.line = o.line) → (q.offer o window hwm).1 = .merged)
      ∧ ((∀ e ∈ q.entries, e.line = o.line → e.isOpen = false) →
          (q.offer o window hwm).1 = if q.entries.length < 24 then .allocated else .noSlot))
    ∧ (o.cls = .ordered ∨ o.cls = .through →
      (∀ e, q.entries.getLast? = some e → e.isOpen = true → e.line = o.line → (q.offer o window hwm).1 = .merged)
      ∧ ((∀ e, q.entries.getLast? = some e → e.line = o.line → e.isOpen = false) →
          (q.offer o window hwm).1 = if q.entries.length < 24 then .allocated else .noSlot))
    ∧ ((q.offer o window hwm).1 = .noSlot → (q.offer o window hwm).2 = q)
    ∧ ((q.offer o window hwm).1 ≠ .noSlot → (q.offer o window hwm).2.counter = q.counter + 1
        ∧ (q.offer o window hwm).2.entries.length
            = q.entries.length + if (q.offer o window hwm).1 = .allocated then 1 else 0)

/-- What a POSTED or ORDERED acceptance does to the entries (02 R28, R29, R31, R34, R37): a merge writes into the line's
OPEN entry and closes it when it is full; an allocation places a new entry behind the others, of which an ORDERED one
closes the line's OPEN entry, and closes the head at or above the high watermark. -/
def Obligations.AcceptedWriteEntry : Prop :=
  ∀ (q : Queue) (o : WriteOffer) (window hwm : Nat), o.cls = .posted ∨ o.cls = .ordered →
    ((q.offer o window hwm).1 = .merged → ∀ (i : Nat) (e : Entry) (bytes : List Host.Cell), q.entries[i]? = some e →
      bytes = cellsLay e.bytes o.bytes →
      (q.offer o window hwm).2.entries[i]? = some (if e.isOpen = true ∧ e.line = o.line
        then { e with
          bytes := bytes, lastSeq := q.counter + 1, writers := e.writers.insert o.port,
          isOpen := decide (bytes.length < 32), timer := if bytes.length < 32 then e.timer else none }
        else e))
    ∧ ((q.offer o window hwm).1 = .allocated → ∀ old new : List Entry,
      old = (if o.cls = .ordered
        then q.entries.map (fun e => if e.isOpen = true ∧ e.line = o.line then { e with isOpen := false, timer := none } else e)
        else q.entries) →
      new = old ++ [{ line := o.line, bytes := cellsLay [] o.bytes, isOpen := decide (window ≠ 0), cls := o.cls,
                      firstSeq := q.counter + 1, lastSeq := q.counter + 1, writers := PortSet.insert {} o.port,
                      waiters := {}, timer := if window = 0 then none else some window }] →
      (q.offer o window hwm).2.entries =
        if hwm ≤ new.length then
          (match new with
            | [] => []
            | e :: rest => { e with isOpen := false, timer := none } :: rest)
        else new)

/-- After a THROUGH acceptance the queue holds no OPEN entry, and its youngest entry carries the write and has the port
among its waiters (02 R32). -/
def Obligations.ThroughAcceptanceClosesAll : Prop :=
  ∀ (q : Queue) (o : WriteOffer) (window hwm : Nat), o.cls = .through → (q.offer o window hwm).1 ≠ .noSlot →
    (∀ e ∈ (q.offer o window hwm).2.entries, e.isOpen = false ∧ e.timer = none)
    ∧ ∃ e, (q.offer o window hwm).2.entries.getLast? = some e ∧ e.line = o.line ∧ e.lastSeq = q.counter + 1
        ∧ e.waiters.has o.port = true ∧ e.writers.has o.port = true
        ∧ ((q.offer o window hwm).1 = .allocated → e.cls = .through ∧ e.firstSeq = q.counter + 1
            ∧ e.bytes = cellsLay [] o.bytes)

/-- The value of the latest accepted write to a byte is what the queue shows for it, and the acceptance changes what it
shows for no other byte (02 HOW THE QUEUE KEEPS ORDER, R44). -/
def Obligations.AcceptedWriteIsSeen : Prop :=
  (∀ (acc : Access) (p : Port) (c : AccessClass), (acc.offer p c).port = p ∧ (acc.offer p c).cls = c
    ∧ (acc.offer p c).line = 2 * acc.addr.toNat / 32)
  ∧ ∀ (q : Queue) (acc : Access) (p : Port) (c : AccessClass) (window hwm : Nat), q.Lawful →
    (q.offer (acc.offer p c) window hwm).1 ≠ .noSlot →
    ∀ a, (q.offer (acc.offer p c) window hwm).2.lookup a =
      if acc.lower = true ∧ a = evenAddr acc.addr then some (acc.data.extractLsb' 0 8)
      else if acc.upper = true ∧ a = evenAddr acc.addr + 1 then some (acc.data.extractLsb' 8 8)
      else q.lookup a

/-- The expiry of a window timer closes the line's OPEN entry and changes nothing else (02 R35). -/
def Obligations.WindowExpiryClosesEntry : Prop :=
  ∀ (s : State) (line : BitVec 19), s.rstn = true →
    ∃ q, exec (.windowTimerExpiry line) s = .next (s.setQueue q) ∧ q.counter = s.queue.counter
      ∧ q.entries.length = s.queue.entries.length
      ∧ ∀ (i : Nat) (e : Entry), s.queue.entries[i]? = some e →
          q.entries[i]? = some (if e.isOpen = true ∧ e.line = line.toNat
            then { e with isOpen := false, timer := none } else e)

/-- With a free slot in RUNNING the slot arbiter offers the pending writes, the earlier wait start first and port A's when
they are the same; without one it offers none.  An offer is made afresh: a write is refused by classification, or accepted,
or finds no slot and keeps its wait start (02 R40, R41; 01 R10, R13, R15). The model's choice: log 5, log 11,
log 33 (the unassigned bits). -/
def Obligations.SlotArbiterServesInOrder : Prop :=
  (∀ s : State, s.rstn = true → s.control.mode = .running → s.queue.entries.length < 24 →
    (∀ wa wb, (s.port .A).pendingWrite = true → (s.port .B).pendingWrite = true →
      (s.port .A).waitStart = some wa → (s.port .B).waitStart = some wb →
      exec .slotArbiterServe s = .next
        (if wb < wa then (s.offerWrite .B).offerWrite .A else (s.offerWrite .A).offerWrite .B).endEvent)
    ∧ (∀ p q, p ≠ q → (s.port p).pendingWrite = true → (s.port q).pendingWrite = false →
      exec .slotArbiterServe s = .next (s.offerWrite p).endEvent)
    ∧ ((∀ p, (s.port p).pendingWrite = false) → exec .slotArbiterServe s = .next s.endEvent))
  ∧ (∀ s : State, s.rstn = true → s.control.mode ≠ .running ∨ 24 ≤ s.queue.entries.length →
    exec .slotArbiterServe s = .next s)
  ∧ ∀ (s : State) (p : Port) (acc : Access), (s.port p).access = some acc → acc.write = true →
    (∀ r, s.classify p true (evenAddr acc.addr) = .refused r →
      s.offerWrite p = (s.setPort p ((s.port p).completed true none)).addFault
        { kind := .writeRefused, source := portSource p, epoch := s.control.epoch, address := some (evenAddr24 acc.addr),
          retained := some false, detail := r.code })
    ∧ ∀ (c : AccessClass) (ans : Answer) (q : Queue), s.classify p true (evenAddr acc.addr) = .classed c →
      s.queue.offer (acc.offer p c) s.coalesceWindow s.hwm = (ans, q) →
      (ans = .noSlot → s.offerWrite p
        = s.setPort p { s.port p with state := .slotWait, waitStart := some ((s.port p).waitStart.getD s.now) })
      ∧ (ans ≠ .noSlot → ∀ u, u = (if ans = .merged then (s.setQueue q).countWriteAccepted.countMerge
            else (s.setQueue q).countWriteAccepted) →
          s.offerWrite p = u.setPort p (if c = .through
            then { s.port p with state := .throughWait, waitStart := none, seq := some q.counter }
            else (s.port p).completed false none))

/-- A take is made exactly while its conditions hold: the run fills the buffer that the pointer names, or the other
one, the pointer moves on, the head is checked against the high watermark, and in RUNNING the pending writes are
served (04 R69 to R71). The run is the CLOSED entries of the head's page from the head on, up to the first OPEN entry
or the first of another page (02 R43).  The buffer's waiters are the union of the waiters of the run's entries (02 R33; 04
R87), its first_seq is the head's, and its last_seq the latest last_seq of the run in wrapping order (04 R71; 02 R25).  The
high-watermark check closes the head at or above the HWM and no other entry (02 R37). The model's choice: log 18 (the mark `retried`), log 22, log 26. -/
def Obligations.TakeFillsBuffer : Prop :=
  (∀ (q : Queue) (hwm : Nat),
    (q.entries.length < hwm → q.hwmCheck hwm = q)
    ∧ (q.entries = [] → q.hwmCheck hwm = q)
    ∧ ∀ e rest, q.entries = e :: rest → hwm ≤ q.entries.length →
      q.hwmCheck hwm = { q with entries := { e with isOpen := false, timer := none } :: rest })
  ∧ (∀ s : State, s.halted = true ↔ ∀ b, (s.buf b).state = .held)
  ∧ (∀ q : Queue, q.entries = q.run ++ q.removeRun.entries ∧ q.removeRun.counter = q.counter
    ∧ (∀ e ∈ q.run, e.isOpen = false ∧ ∀ h, q.entries.head? = some h → pageOfLine e.line = pageOfLine h.line)
    ∧ ∀ h, q.entries.head? = some h →
        (h.isOpen = false → q.run.head? = some h)
        ∧ ∀ e, q.removeRun.entries.head? = some e → e.isOpen = true ∨ pageOfLine e.line ≠ pageOfLine h.line)
  ∧ ∀ s : State, s.rstn = true →
    (∀ (h : Entry) (rest : List Entry) (b : Buf) (x : PageBuffer) (u : State),
      s.DrainAllowed → s.queue.entries = h :: rest → h.isOpen = false →
      (s.buf b).state = .free → (b = s.drain.next ∨ (s.buf s.drain.next).state ≠ .free) →
      x = bufferOfRun s.queue.run s.queue.counter (s.buf b.other).stamp →
      u = (s.setDrain { s.drain.setBuf b x with next := b.other }).setQueue (s.queue.removeRun.hwmCheck s.hwm) →
      exec .takeRun s = .next (if s.control.mode = .running then u.writesOffered else u).endEvent
        ∧ x.state = .filled ∧ x.page = pageOfLine h.line ∧ x.attempts = 0 ∧ x.failure = none
        ∧ x.firstSeq = h.firstSeq ∧ (s.buf b.other).stamp < x.stamp ∧ x.retried = false
        ∧ (∀ p, x.waiters.has p = true ↔ ∃ e ∈ s.queue.run, e.waiters.has p = true)
        ∧ (∃ e ∈ s.queue.run, x.lastSeq = e.lastSeq)
        ∧ ∀ e ∈ s.queue.run, (s.queue.counter - x.lastSeq).toNat ≤ (s.queue.counter - e.lastSeq).toNat)
    ∧ (¬ s.DrainAllowed ∨ s.halted = true ∨ (∀ b, (s.buf b).state ≠ .free)
        ∨ (∀ h, s.queue.entries.head? = some h → h.isOpen = true) → exec .takeRun s = .next s)

/-- A take changes what no read finds: every byte is found in the buffer as it was found in the queue (04 R71, 03 R57). -/
def Obligations.TakeKeepsEveryLookup : Prop :=
  ∀ (s : State) (b : Buf) (x : PageBuffer) (u : State), s.BytesLawful → (s.buf b).state = .free →
    x = bufferOfRun s.queue.run s.queue.counter (s.buf b.other).stamp →
    u = (s.setDrain { s.drain.setBuf b x with next := b.other }).setQueue (s.queue.removeRun.hwmCheck s.hwm) →
    s.queue.run ≠ [] → ∀ a, u.lookup a = s.lookup a

/-! ### Read service -/

/-- The completion of a fetch's read frees the link and removes the fetch; the port gets its captured lanes as
captured and the others from the memory, and an orphaned fetch's bytes are discarded (03 R53, R54). A held-back fetch
enters the list once its port's orphaned fetch has left it, and not before (03 R55). The model's choice: log 11. -/
def Obligations.FetchesLeaveAndEnter : Prop :=
  (∀ s : State, s.rstn = true →
    (∀ f, s.reads.heldBack = some f → (∀ g ∈ s.reads.fetches, g.port ≠ f.port) →
      exec .heldBackFetchEntry s = .next (s.setReads ⟨s.reads.fetches ++ [f], none⟩).endEvent)
    ∧ ((∀ f, s.reads.heldBack = some f → ∃ g ∈ s.reads.fetches, g.port = f.port) →
      exec .heldBackFetchEntry s = .next s.endEvent))
  ∧ ∀ (s u : State) (f : Fetch) (addr len : Nat) (lower upper : Byte),
    s.rstn = true → s.link.holder = some (.fetch f.port) → s.link.wire = some (.readData addr len) →
    f ∈ s.reads.fetches → f.state = .onLink → (∀ g ∈ s.reads.fetches, g.port = f.port → g = f) →
    u = (s.setLink { s.link.freed with wire := none }).setReads
      { s.reads with fetches := s.reads.fetches.filter fun g => decide (g ≠ f) } →
    exec (.fetchCompletion lower upper) s = .next (if f.orphaned then u.endEvent
      else (u.setPort f.port ((s.port f.port).completed false
        (some (f.capturedUpper.getD upper ++ f.capturedLower.getD lower)))).endEvent)

/-! ### The link arbiter -/

/-- A decision: none on a held link or with no eligible request; in place of a request that needs a quiet memory,
while the condition is UNSETTLED, a SETTLE; and otherwise the grant of the request chosen (05 R101, R104).  A granted fetch
is ON_LINK and its halfword is read (03 R53), PROBE issues READ-ID and starts its busy timer (08 R152), and MARKER_READ reads
the 16 bytes of the marker record (08 R154); an operation is issued at once, or behind the one left on the wire.
PROBE, DIRECT_ID, DIRECT_STATUS and SETTLE alone begin with none of WRITE-ENABLE, PAGE-WRITE and READ-DATA (05 R101). The model's
choice: log 11, log 13, log 24. -/
def Obligations.ArbiterGrantsChosenOrSettles : Prop :=
  (∀ op : LinkOp, op.needsQuiet = false ↔ op = .probe ∨ op = .directId ∨ op = .directStatus ∨ ∃ k, op = .settle k)
  ∧ (∀ s : State, s.directConflict = true ↔ (∃ e ∈ s.queue.entries, e.line / 8 = s.maint.direct.line.toNat / 8)
    ∨ ∃ b, (s.buf b).state ≠ .free ∧ (s.buf b).page = s.maint.direct.line.toNat / 8)
  ∧ (∀ s : State, s.rstn = true →
    (s.link.holder ≠ none ∨ s.chosen = none → exec .arbiterDecision s = .next s.tick)
    ∧ ∀ (k : ReqKind) (op : LinkOp), s.link.holder = none → s.chosen = some (k, op) →
      (op.needsQuiet = true → s.link.quiet = false → exec .arbiterDecision s
        = .next ((s.setLink { s.link with holder := some (.settle k), settleTimer := true }).issue .readStatus).tick)
      ∧ (op.needsQuiet = false ∨ s.link.quiet = true → op ≠ .directWrite ∨ s.directConflict = false →
        exec .arbiterDecision s = .next (s.grant op).tick ∧ (s.grant op).link.holder = some op))
  ∧ (∀ (s : State) (f : Fetch), f ∈ s.reads.fetches → f.state = .waiting → (∀ g ∈ s.reads.fetches, g.port = f.port → g = f) →
    s.grant (.fetch f.port) = ((s.setLink { s.link with holder := some (.fetch f.port) }).setReads { s.reads with
      fetches := s.reads.fetches.map fun g => if g.port = f.port then { g with state := .onLink, orphaned := false } else g }
      ).issue (.readData (evenAddr f.addr) 2))
  ∧ (∀ s : State,
    s.grant .probe = ((s.setLink { s.link with holder := some .probe }).setControl
      { s.control with request := none, probeTimer := true }).issue .readId
    ∧ s.grant .markerRead = ((s.setLink { s.link with holder := some .markerRead }).setControl
      { s.control with request := none }).issue (.readData (s.memoryBytes - 256) 16))
  ∧ ∀ (s : State) (m : MemOp), s.issue m = s.setLink
    (if s.link.wire = none then { s.link with wire := some m } else { s.link with queued := some m })
    ∧ s.link.issue m = (s.issue m).link

/-- The request chosen is the first eligible one in the order of the bridge mode in force (05 R105), and within its kind
the earlier fetch and the older fill stamp go first (05 R106).  A kind asks for the link exactly while it has an eligible
request: a WAITING fetch, a FILLED buffer that 04 R72 and the pins let go, the control request, and the direct request but
for a pinned DIRECT_WRITE (05 R108).  In PF_DRAIN the marker write is requested exactly while its condition holds, and on a
FREE link it is granted at once (08 R166). The model's choice: log 12, log 24. -/
def Obligations.ChosenRequestIsFirstEligible : Prop :=
  (∀ s : State, s.control.mode = .pfDrain →
    (s.link.holder = none →
      (s.MarkerDue → s.endEvent.link.holder = some (if s.link.quiet then .markerWrite else .settle .control))
      ∧ (¬ s.MarkerDue → s.endEvent.link.holder ≠ some .markerWrite ∧ s.endEvent.link.holder ≠ some (.settle .control)))
    ∧ ∀ op, s.link.holder = some op →
      s.endEvent.control.request = none ∧ (¬ s.MarkerDue ∨ op = .markerWrite)
        ∨ s.endEvent.control.request = some .markerWrite ∧ s.MarkerDue ∧ op ≠ .markerWrite)
  ∧ ∀ s : State,
    (∀ (k : ReqKind) (op : LinkOp), s.chosen = some (k, op) ↔ ∃ before after, s.priorities = before ++ k :: after
      ∧ (∀ j ∈ before, s.requestOf j = none) ∧ s.requestOf k = some op)
    ∧ (s.control.mode = .starting → s.priorities = [.control])
    ∧ (s.control.mode = .running ∨ s.control.mode = .applying →
        (s.queue.entries.length < s.hwm → s.priorities = [.fetch, .drain, .direct])
        ∧ (s.hwm ≤ s.queue.entries.length → s.priorities = [.drain, .fetch, .direct]))
    ∧ (s.control.mode = .pfDrain → s.priorities = [.drain, .control, .fetch])
    ∧ (s.control.mode = .pfDone → s.priorities = [.fetch])
    ∧ (s.control.mode = .resuming → s.priorities = [.control, .fetch])
    ∧ (s.control.mode = .failed → s.priorities = [.direct])
    ∧ (∀ op, s.requestOf .fetch = some op ↔ ∃ f, s.fetchRequest = some f ∧ op = .fetch f.port)
    ∧ (∀ op, s.requestOf .drain = some op ↔ ∃ b, s.drainRequest = some b ∧ op = .program b)
    ∧ (∀ op, s.requestOf .control = some op ↔ (s.control.request = some .probe ∧ op = .probe)
        ∨ (s.control.request = some .markerRead ∧ op = .markerRead)
        ∨ (s.control.request = some .markerWrite ∧ op = .markerWrite))
    ∧ (∀ op, s.requestOf .direct = some op ↔ s.maint.direct.waiting = true ∧ ((s.maint.slot = .directId ∧ op = .directId)
        ∨ (s.maint.slot = .directStatus ∧ op = .directStatus) ∨ (s.maint.slot = .directRead ∧ op = .directRead)
        ∨ (s.maint.slot = .directWrite ∧ op = .directWrite
          ∧ ∀ f ∈ s.reads.fetches, pageOf (evenAddr f.addr) ≠ s.maint.direct.line.toNat / 8)))
    ∧ (∀ f, s.fetchRequest = some f → f ∈ s.reads.fetches ∧ f.state = .waiting
        ∧ ∀ g ∈ s.reads.fetches, g.state = .waiting →
            f.order < g.order ∨ (f.order = g.order ∧ (f.port = .A ∨ g.port = f.port)))
    ∧ (s.fetchRequest = none ↔ ∀ f ∈ s.reads.fetches, f.state ≠ .waiting)
    ∧ (∀ b, s.drainRequest = some b → s.DrainMayGo b
        ∧ (s.DrainMayGo b.other → (s.buf b).stamp ≤ (s.buf b.other).stamp))
    ∧ (s.drainRequest = none ↔ ∀ b, ¬ s.DrainMayGo b)

/-- The grant of a FILLED buffer prepares its span: the held partner's later bytes are laid over, or its earlier ones
fill the holes; holes that are left are read from the memory, and without any the first attempt starts, with its
WRITE-ENABLE and the charge that PF_DRAIN will make (04 R77; 05 R109; 08 R165; AttemptStart). The buffer keeps its page, its
stamp, its numbers, its waiters and its failure reason. No read finds
another value for it (04 R75, R57).  The span of a buffer runs from its lowest valid page offset to its highest, its holes are
the offsets between them with no valid byte, and the page write carries exactly the span to page × 256 plus its first offset
(04 R73). The model's choice: log 18. -/
def Obligations.GrantPreparesSpan : Prop :=
  (∀ x : PageBuffer, CellsBelow x.bytes 256 → x.bytes ≠ [] → ∃ first last : Nat,
    first ≤ last ∧ last < 256 ∧ (cellsGet x.bytes first).isSome = true ∧ (cellsGet x.bytes last).isSome = true
    ∧ (∀ a, (cellsGet x.bytes a).isSome = true → first ≤ a ∧ a ≤ last)
    ∧ cellsFirst x.bytes = first ∧ cellsLast x.bytes = last
    ∧ x.spanAddr = x.page * 256 + first ∧ x.spanLen = last - first + 1 ∧ x.spanBytes.length = last - first + 1
    ∧ (∀ a, first ≤ a → a ≤ last → x.spanBytes[a - first]? = some ((cellsGet x.bytes a).getD 0))
    ∧ (∀ a, a ∈ holesOf x.bytes ↔ first ≤ a ∧ a ≤ last ∧ cellsGet x.bytes a = none)
    ∧ (holesOf x.bytes).Pairwise (· < ·))
  ∧ ∀ (s t : State) (b : Buf) (x y : PageBuffer) (partner : Bool), s.BytesLawful → x = s.buf b → y = s.buf b.other →
    x.state = .filled → t = s.grant (.program b) →
    partner = decide (y.state ≠ .free ∧ y.page = x.page
      ∧ (y.state = .held ∨ (y.state = .filled ∧ y.retried = true ∧ x.stamp < y.stamp))) →
    t.link.holder = some (.program b) ∧ t.buf b.other = y
      ∧ t.drain.partner = (if partner then some b.other else none)
      ∧ (∀ a, cellsGet (t.buf b).bytes a =
          if partner = true ∧ cellsFirst x.bytes ≤ a ∧ a ≤ cellsLast x.bytes then
            (if x.stamp < y.stamp then (cellsGet y.bytes a).or (cellsGet x.bytes a)
              else (cellsGet x.bytes a).or (cellsGet y.bytes a))
          else cellsGet x.bytes a)
      ∧ (holesOf (t.buf b).bytes = [] → (t.buf b).state = .programming ∧ (t.buf b).attempts = x.attempts + 1)
      ∧ (∀ h rest, holesOf (t.buf b).bytes = h :: rest →
          (t.buf b).state = .gapRead ∧ (t.buf b).attempts = x.attempts
            ∧ t.link = { s.link with holder := some (.program b) }.issue
                (.readData (x.page * 256 + h) ((rest.getLast?.getD h) - h + 1)))
      ∧ { t.buf b with state := x.state, bytes := x.bytes, attempts := x.attempts, retried := x.retried } = x
      ∧ (∀ u v : State, u = (s.setLink { s.link with holder := some (.program b) }).setDrain
            { s.drain.setBuf b { x with bytes := (t.buf b).bytes, retried := false } with
              partner := if partner then some b.other else none } →
          v = u.setBuf b { x with state := .gapRead, bytes := (t.buf b).bytes, retried := false } →
        (holesOf (t.buf b).bytes = [] → t = u.startProgramAttempt b)
        ∧ ∀ h rest, holesOf (t.buf b).bytes = h :: rest →
          t = v.issue (.readData (x.page * 256 + h) ((rest.getLast?.getD h) - h + 1)))
      ∧ (holesOf (t.buf b).bytes = [] → t.drain.chargeable = decide (s.control.mode = .pfDrain)
        ∧ (s.link.quiet = true → s.link.wire = none → s.pinned x.page = false → t.link.wire = some .writeEnable))
      ∧ ∀ a, t.lookup a = s.lookup a

/-! ### Attempts -/

/-- The gap read fills the holes with the bytes returned, keeps every valid byte, and the first attempt starts in its
event (04 R76). -/
def Obligations.GapReadFillsHoles : Prop :=
  ∀ (s : State) (b : Buf) (addr : Nat) (bytes : List Byte) (x : PageBuffer), s.rstn = true →
    s.link.holder = some (.program b) → s.link.wire = some (.readData addr bytes.length) → (s.buf b).state = .gapRead →
    x = { s.buf b with bytes := cellsFill (s.buf b).bytes (cellsAt (addr % 256) bytes) } →
    exec (.gapReadCompletion bytes) s
        = .next ((((s.setLink { s.link with wire := none }).setBuf b x).startProgramAttempt b).endEvent)
      ∧ ∀ a, cellsGet x.bytes a
          = (cellsGet (s.buf b).bytes a).or (if addr % 256 ≤ a then bytes[a - addr % 256]? else none)

/-- The start of an attempt: the attempt is counted, a drain attempt in PF_DRAIN will be charged, and WRITE-ENABLE is
issued, or the operation waits for a pin, or it settles first while the condition is UNSETTLED (04 R77; 05 R102,
R109).  A page is pinned while a fetch of it is in the fetch list (05 R108), and the page of an operation's page write is that
of its buffer, the marker page, or that of the DIRECT-WRITE's line (05 R109). The model's choice: log 13, log 19. -/
def Obligations.AttemptStart : Prop :=
  (∀ (s : State) (page : Nat),
    (s.pinned page = true ↔ ∃ f ∈ s.reads.fetches, 2 * f.addr.toNat / 256 = page)
    ∧ (s.holderPage = some page ↔ (∃ b, s.link.holder = some (.program b) ∧ page = (s.buf b).page)
      ∨ (s.link.holder = some .markerWrite ∧ page = s.markerPage)
      ∨ (s.link.holder = some .directWrite ∧ page = s.maint.direct.line.toNat / 8))
    ∧ (s.holderPage = some page → s.enableOrPin
        = if s.pinned page then s.setLink { s.link with pinWait := true } else s.issue .writeEnable))
  ∧ ∀ (s : State) (page : Nat) (l : Link), s.holderPage = some page →
    (s.link.quiet = true ∧ s.pinned page = false ∧ s.link.wire = none ∧ l = { s.link with wire := some .writeEnable }
      ∨ s.link.quiet = true ∧ s.pinned page = false ∧ s.link.wire ≠ none ∧ l = { s.link with queued := some .writeEnable }
      ∨ s.link.quiet = true ∧ s.pinned page = true ∧ l = { s.link with pinWait := true }
      ∨ s.link.quiet = false ∧ s.link.wire = none
        ∧ l = { s.link with wire := some .readStatus, settling := true, programTimer := some s.programTimeout }
      ∨ s.link.quiet = false ∧ s.link.wire ≠ none ∧ l = { s.link with queued := some .readStatus, settling := true }) →
    (∀ b, s.link.holder = some (.program b) → s.startProgramAttempt b = (s.setDrain
      { s.drain.setBuf b { s.buf b with state := .programming, attempts := (s.buf b).attempts + 1 }
        with chargeable := decide (s.control.mode = .pfDrain) }).setLink l)
    ∧ (s.link.holder = some .markerWrite → s.startMarkerAttempt = (s.setControl { s.control with
        marker := { s.control.marker with attempts := s.control.marker.attempts + 1 } }).setLink l)

/-- After WRITE-ENABLE comes the PAGE-WRITE of the holder, charged to the budget in PF_DRAIN if it is one of the
marker write or of a drain attempt that started there, unless the page is pinned; after the PAGE-WRITE the condition
is UNSETTLED and the program timer and the poll interval run; after the interval READ-STATUS is issued (05 R97, R99,
R100, R108; 08 R165).  The memory ignores both commands while it is busy; WRITE-ENABLE sets WRITE_ENABLED and clears
WRITE_FAIL, and a PAGE-WRITE starts a program when WRITE_ENABLED is set (05 R95).  On the wire (05 R94) an operation is one command byte,
then three address bytes if it takes an address, most significant first, then a PAGE-WRITE's data; MCSn is low and MCK runs
exactly while it is there, MDO carries its bytes most significant bit first, and is low while the memory sends its answer;
the part ignores MDI while it sends, and then takes the answer's bytes, most significant bit first. The model's choice: log 4, log 14, log 19. -/
def Obligations.WriteIsEnabledWrittenAndPolled : Prop :=
  (∀ (op : MemOp) (adr : Nat → List Byte),
    adr = (fun a => [BitVec.ofNat 8 (a / 65536), BitVec.ofNat 8 (a / 256), BitVec.ofNat 8 a]) →
    op.sent = (match op with
      | .readId => [0xB1]
      | .readStatus => [0xB5]
      | .writeEnable => [0xC6]
      | .pageWrite a data => 0xD2 :: adr a ++ data
      | .readData a _ => 0xE3 :: adr a)
    ∧ op.answerLen = (match op with
      | .readId => 3
      | .readStatus => 1
      | .writeEnable => 0
      | .pageWrite _ _ => 0
      | .readData _ len => len)
    ∧ ∀ mdi : Nat → Bool, (op.received mdi).length = op.answerLen
      ∧ ∀ i j, i < op.answerLen → j < 8 →
        ((op.received mdi).getD i 0).getLsbD (7 - j) = mdi (8 * op.sent.length + 8 * i + j))
  ∧ (∀ s : State,
    (∀ op, s.link.wire = some op → s.mcsLow = true ∧ s.mckHigh false = false ∧ s.mckHigh true = true
      ∧ ∀ k, (k < 8 * op.sent.length → s.mdoHigh k = (op.sent.getD (k / 8) 0).getLsbD (7 - k % 8))
        ∧ (8 * op.sent.length ≤ k → s.mdoHigh k = false))
    ∧ (s.link.wire = none → s.mcsLow = false ∧ ∀ half, s.mckHigh half = false))
  ∧ (∀ (m : SerialMemory) (addr : Nat) (data : List Byte),
    (m.busy = true → m.writeEnable = m ∧ m.pageWrite addr data = m)
    ∧ (m.busy = false → m.writeEnable = { m with writeEnabled := true, writeFail := false }
      ∧ (m.writeEnabled = false → m.pageWrite addr data = m)
      ∧ (m.writeEnabled = true → m.pageWrite addr data = { m with busy := true, program := some (addr, data) })))
  ∧ ∀ s : State, s.rstn = true →
    (∀ (page addr : Nat) (data : List Byte) (charged : Bool), s.link.wire = some .writeEnable →
      (∃ b, s.link.holder = some (.program b) ∧ page = (s.buf b).page ∧ addr = (s.buf b).spanAddr
          ∧ data = (s.buf b).spanBytes ∧ charged = (decide (s.control.mode = .pfDrain) && s.drain.chargeable)
        ∨ s.link.holder = some .markerWrite ∧ page = s.markerPage ∧ addr = s.markerAddr
          ∧ data = s.control.marker.record.encode ∧ charged = decide (s.control.mode = .pfDrain)) →
      (s.pinned page = true → exec .writeEnableCompletion s = .next (((s.setLink
        { s.link with wire := none, pinWait := true }).setMemory s.memory.writeEnable).endEvent))
      ∧ (s.pinned page = false → exec .writeEnableCompletion s = .next ((((s.setLink
        { s.link with wire := some (.pageWrite addr data) }).setMemory s.memory.writeEnable).setControl
          { s.control with budget := if charged then s.control.budget - 1 else s.control.budget }).endEvent)))
    ∧ (∀ (addr : Nat) (data : List Byte), s.link.wire = some (.pageWrite addr data) →
      exec .pageWriteCompletion s = .next ((s.setLink { s.link with
        wire := none, quiet := false, programTimer := some s.programTimeout, pollWait := true }).setMemory
          (s.memory.pageWrite addr data)))
    ∧ (s.link.pollWait = true → s.link.wire = none → exec .pollIntervalExpiry s
        = .next (s.setLink { s.link with pollWait := false, wire := some .readStatus }))

/-- What becomes of a READ-STATUS that does not end an attempt (05 R99 to R102; 04 R78): BUSY 1 starts the poll
interval again, a settled attempt goes on to its WRITE-ENABLE, a good status with verify on is followed by the verify
read, and a status left by an operation that has ended is not judged: what waited behind it is issued.  BUSY is bit 0 of
the status and WRITE_FAIL bit 5; at BUSY 0 the memory's program has ended, BUSY and WRITE_ENABLED are clear and WRITE_FAIL
tells a failure (05 R95, R96). The model's choice: log 4, log 13. -/
def Obligations.StatusIsPolledOn : Prop :=
  (∀ op : LinkOp, op.polls = true ↔ (∃ b, op = .program b) ∨ op = .markerWrite ∨ op = .directWrite ∨ op = .probe
    ∨ ∃ k, op = .settle k)
  ∧ (∀ (m : SerialMemory) (st : Byte) (now : Nat), (statusBusy st = st.getLsbD 0 ∧ statusWriteFail st = st.getLsbD 5)
    ∧ (m.busy = false ∨ st.getLsbD 0 = true → m.sawStatus st now = m)
    ∧ (m.busy = true → st.getLsbD 0 = false → (m.sawStatus st now).busy = false
      ∧ (m.sawStatus st now).writeEnabled = false ∧ (m.sawStatus st now).writeFail = st.getLsbD 5
      ∧ (m.sawStatus st now).program = none))
  ∧ ∀ (s : State) (st : Byte), s.rstn = true → s.link.wire = some .readStatus →
    (s.link.stale = true → exec (.readStatusCompletion st) s = .next (((s.setLink { s.link with
        stale := false, wire := s.link.queued, queued := none, quiet := s.link.quiet || !statusBusy st,
        programTimer := if s.link.settling && s.link.queued.isSome then some s.programTimeout else s.link.programTimer
      }).setMemory (s.memory.sawStatus st s.now)).endEvent))
    ∧ (s.link.stale = false → ∀ op, s.link.holder = some op → op.polls = true →
      (statusBusy st = true → exec (.readStatusCompletion st) s
        = .next (s.setLink { s.link with wire := none, pollWait := true }).endEvent)
      ∧ (statusBusy st = false → s.link.settling = true → (op = .markerWrite ∨ ∃ b, op = .program b) →
        exec (.readStatusCompletion st) s = .next ((((s.setLink { s.link.polled with settling := false }).setMemory
          (s.memory.sawStatus st s.now)).enableOrPin).endEvent))
      ∧ (statusBusy st = false → statusWriteFail st = false → s.link.settling = false → s.verify = true →
        (∀ b, op = .program b → exec (.readStatusCompletion st) s = .next (((((s.setLink s.link.polled).setMemory
          (s.memory.sawStatus st s.now)).setBuf b { s.buf b with state := .verifying }).issue
            (.readData (s.buf b).spanAddr (s.buf b).spanLen)).endEvent))
        ∧ (op = .markerWrite → exec (.readStatusCompletion st) s = .next (((((s.setLink s.link.polled).setMemory
          (s.memory.sawStatus st s.now))).issue (.readData s.markerAddr 16)).endEvent))))

/-- A failed drain attempt takes one of its three courses in its event: a further attempt, suspension under the
budget, or HELD with its fault record, its waiters told and an APPLY overtaken (04 R79, R80, R83 to R85; 07 R141).
The reasons have the codes of 10 R200. The
model's choice: log 13, log 18,
log 33 (the unassigned bits). -/
def Obligations.FailedAttemptTakesItsCourse : Prop :=
  (∀ r : FailReason, r.code.toNat = (match r with
    | .statusFail => 0 | .verifyMismatch => 1 | .timeout => 2))
  ∧ ∀ (s u v w : State) (b : Buf) (c : Instr) (r : FailReason) (l : Link) (m : SerialMemory), s.AttemptFails b c r l m →
    ((s.buf b).attempts < s.retryLimit → (s.control.mode = .pfDrain → 2 ≤ s.control.budget) →
      exec c s = .next (((((s.setLink l).setMemory m).countRetry.setBuf b { s.buf b with failure := some r }
        ).startProgramAttempt b).endEvent))
    ∧ ((s.buf b).attempts < s.retryLimit → s.control.mode = .pfDrain → s.control.budget < 2 →
      exec c s = .next ((((s.setLink l.freed).setMemory m).countRetry.setDrain { s.drain.setBuf b
        { s.buf b with state := .filled, failure := some r, retried := true } with partner := none }).endEvent))
    ∧ (s.retryLimit ≤ (s.buf b).attempts →
      u = ((((s.setLink l.freed).setMemory m).countRetry.setDrain { s.drain.setBuf b
        { s.buf b with state := .held, failure := some r, waiters := {} } with partner := none }).addFault
          { kind := .programFailed, source := .drain, epoch := s.control.epoch, page := some (s.buf b).page,
            seq := some (s.buf b).firstSeq, retained := some true,
            detail := BitVec.ofNat 8 (s.buf b).attempts ||| (r.code <<< 3)
              ||| (if (s.buf b).waiters.a then 0x40 else 0) ||| (if (s.buf b).waiters.b then 0x80 else 0) }).tellWaiters
          (s.buf b).waiters false →
      v = (if (s.buf b.other).state = .held then u.addFault
          { kind := .drainHalted, source := .drain, epoch := s.control.epoch, page := some (s.buf b).page,
            detail := if b = .pb0 then 0 else 1 } else u) →
      w = (if s.control.mode = .applying then (v.completeLong .abortedHeld [s.control.epoch]).changeMode .running else v) →
      exec c s = .next w.endEvent)

/-- A successful drain attempt: PAGE_WRITES, the waiters told, the held partner's bytes inside the span cleared and an
emptied partner FREE with its fault record, the buffer FREE, the link FREE, and an APPLY judged (04 R81, R82; 07
R140). The model's choice: log 4,
log 33 (the unassigned bits). -/
def Obligations.SuccessFreesBuffer : Prop :=
  (∀ (c : List Host.Cell) (lo hi a : Nat),
    cellsGet (cellsOutside c lo hi) a = if lo ≤ a ∧ a ≤ hi then none else cellsGet c a)
  ∧ ∀ (s u v : State) (b : Buf) (c : Instr) (l : Link) (m : SerialMemory) (left : List Host.Cell),
    s.AttemptSucceeds b c l m →
    left = cellsOutside (s.buf b.other).bytes (cellsFirst (s.buf b).bytes) (cellsLast (s.buf b).bytes) →
    u = (((s.setLink l.freed).setMemory m).countPageWrite).tellWaiters (s.buf b).waiters true →
    (s.drain.partner = none ∧ v = u.setDrain (s.drain.setBuf b {})
      ∨ s.drain.partner = some b.other ∧ left ≠ [] ∧ v = u.setDrain
          { (s.drain.setBuf b {}).setBuf b.other { s.buf b.other with bytes := left } with partner := none }
      ∨ s.drain.partner = some b.other ∧ left = [] ∧ v = ((u.setDrain
          { (s.drain.setBuf b {}).setBuf b.other {} with partner := none }).tellWaiters (s.buf b.other).waiters true
          ).addFault
          { kind := .heldSuperseded, source := .drain, epoch := s.control.epoch, page := some (s.buf b.other).page,
            retained := some false, detail := if b.other = .pb0 then 0 else 1 }) →
    exec c s = .next (if v.control.mode = .applying ∧ v.nothingRetained = true then v.completeApply else v).endEvent

/-- The outcome of a program reaches each waiting port of the buffer and no other, a success as a normal completion and a
final failure as an error; nothing but the ports changes; as a command of its own it reaches a port that no entry and no
buffer carries any more (01 R17; 04 R81, R84, R87; log 11).  A completion leaves the port ENDING with its outcome and its data, its stall timer
stopped and no pending write (01 R4, R18). -/
def Obligations.OutcomeReachesWaiters : Prop :=
  (∀ (r : PortRec) (error : Bool) (data : Option (BitVec 16)), r.completed error data
    = { r with state := .ending, waitStart := none, stallTimer := none, error := error, dataOut := data })
  ∧ (∀ (s : State) (p : Port), s.noWaiter p = true ↔
    (∀ e ∈ s.queue.entries, e.waiters.has p = false) ∧ ∀ b, (s.buf b).waiters.has p = false)
  ∧ (∀ (s : State) (p : Port) (success : Bool), s.rstn = true → (s.port p).state = .throughWait →
    (s.port p).writes = true → s.noWaiter p = true →
    exec (.throughWaiterOutcome p success) s = .next (s.setPort p ((s.port p).completed (!success) none)))
  ∧ ∀ (s : State) (w : PortSet) (success : Bool),
    (∀ p, (s.tellWaiters w success).port p = if w.has p = true ∧ (s.port p).state = .throughWait
      then (s.port p).completed (!success) (if success = false ∧ (s.port p).reads = true then some s.fill else none)
      else s.port p)
    ∧ { s.tellWaiters w success with ports := s.ports } = s

/-- The runs of a DIRECT-WRITE are the largest sets of consecutive flagged offsets of the line, in rising order, 1 to 16 of
them (06 R124).  A granted DIRECT-WRITE whose page the part holds in an entry or a buffer ends with CONFLICT and the arbiter decides
afresh; otherwise its first WRITE-ENABLE is issued (06 R123).  A run: its PAGE-WRITE is issued and counted, or with
its page pinned the run waits for the pin and none is issued (05 R108, R109), a status without
a failure goes on to the next run or ends the operation with OK, and a failure or an expiry ends it (06 R124; 05 R97, R99).
The model's choice: log 4, log 13, log 14. -/
def Obligations.DirectWriteRuns : Prop :=
  (∀ flags : BitVec 32,
    (∀ start len : Nat, (start, len) ∈ directRuns flags ↔ 0 < len ∧ start + len ≤ 32
      ∧ (∀ i, start ≤ i → i < start + len → flags.getLsbD i = true)
      ∧ (start = 0 ∨ flags.getLsbD (start - 1) = false)
      ∧ (start + len = 32 ∨ flags.getLsbD (start + len) = false))
    ∧ (directRuns flags).Pairwise (fun r r' => r.1 + r.2 < r'.1)
    ∧ (flags ≠ 0 → 1 ≤ (directRuns flags).length ∧ (directRuns flags).length ≤ 16))
  ∧ (∀ (s u : State) (page : Nat), page = s.maint.direct.line.toNat / 8 →
    u = (s.setMaint { s.maint with direct := { s.maint.direct with waiting := false } }).setLink
      { s.link with holder := some .directWrite } →
    ((∃ e ∈ s.queue.entries, e.line / 8 = page) ∨ (∃ b, (s.buf b).state ≠ .free ∧ (s.buf b).page = page) →
      s.grant .directWrite = (u.setLink u.link.freed).completeLong .conflict [0, 0]
      ∧ (s.rstn = true → s.link.holder = none → s.link.quiet = true → s.chosen = some (.direct, .directWrite) →
        exec .arbiterDecision s = exec .arbiterDecision (s.grant .directWrite)))
    ∧ ((∀ e ∈ s.queue.entries, e.line / 8 ≠ page) → (∀ b, (s.buf b).state = .free ∨ (s.buf b).page ≠ page) →
      s.pinned page = false → s.grant .directWrite = u.issue .writeEnable))
  ∧ ∀ s : State, s.rstn = true → s.link.holder = some .directWrite →
    (∀ (start len page : Nat), s.link.wire = some .writeEnable →
      (directRuns s.maint.direct.flags)[s.maint.direct.written]? = some (start, len) →
      page = s.maint.direct.line.toNat / 8 → s.pinned page = false →
      exec .writeEnableCompletion s = .next ((((s.setLink { s.link with
          wire := some (.pageWrite (s.maint.direct.line.toNat * 32 + start) ((s.maint.direct.data.drop start).take len)) }
        ).setMemory s.memory.writeEnable).setMaint
          { s.maint with direct := { s.maint.direct with issued := s.maint.direct.issued + 1 } }).endEvent))
    ∧ (∀ (start len page : Nat), s.link.wire = some .writeEnable →
      (directRuns s.maint.direct.flags)[s.maint.direct.written]? = some (start, len) →
      page = s.maint.direct.line.toNat / 8 → s.pinned page = true →
      exec .writeEnableCompletion s
        = .next ((s.setLink { s.link with wire := none, pinWait := true }).setMemory s.memory.writeEnable).endEvent)
    ∧ (∀ (st : Byte) (u : State), s.link.wire = some .readStatus → s.link.stale = false → statusBusy st = false →
      u = (s.setLink s.link.polled).setMemory (s.memory.sawStatus st s.now) →
      (statusWriteFail st = true → exec (.readStatusCompletion st) s
        = .next (((u.setLink u.link.freed).completeLong .memFail
            [BitVec.ofNat 8 s.maint.direct.issued, BitVec.ofNat 8 s.maint.direct.written]).endEvent))
      ∧ (statusWriteFail st = false → ∀ v, v = u.setMaint
            { s.maint with direct := { s.maint.direct with written := s.maint.direct.written + 1 } } →
        (s.maint.direct.written + 1 < (directRuns s.maint.direct.flags).length →
          exec (.readStatusCompletion st) s = .next v.enableOrPin.endEvent)
        ∧ ((directRuns s.maint.direct.flags).length ≤ s.maint.direct.written + 1 →
          exec (.readStatusCompletion st) s = .next (((v.setLink v.link.freed).completeLong .ok
            [BitVec.ofNat 8 s.maint.direct.issued, BitVec.ofNat 8 (s.maint.direct.written + 1)]).endEvent))))
    ∧ (s.link.programTimer.isSome = true → exec .programTimerExpiry s
        = .next (((s.setLink s.link.expired.freed).completeLong .timedOut
            [BitVec.ofNat 8 s.maint.direct.issued, BitVec.ofNat 8 s.maint.direct.written]).endEvent))

/-- The ends of the waits of the link: a SETTLE completes at its limit with the condition as it is, or at BUSY 0 with
it QUIET, and with a stop pending one granted in a control operation's place ends the start-up sequence; a pin wait
ends when the page is no longer pinned, and WRITE-ENABLE is issued (05 R101, R109; 08 R162). The model's choice: log
11, log 13, log 24. -/
def Obligations.LinkWaitsEnd : Prop :=
  ∀ s : State, s.rstn = true →
    (∀ (k : ReqKind) (c : Instr) (u : State), s.link.holder = some (.settle k) →
      (s.link.settleTimer = true ∧ c = .settleLimitExpiry
          ∧ u = s.setLink { s.link.freed with stale := s.link.wire.isSome, queued := none }
        ∨ ∃ st, s.link.wire = some .readStatus ∧ s.link.stale = false ∧ statusBusy st = false
          ∧ c = .readStatusCompletion st
          ∧ u = (s.setLink { s.link.freed with wire := none, quiet := true }).setMemory (s.memory.sawStatus st s.now)) →
      exec c s = .next (if s.control.mode = .starting ∧ s.control.stopPending = true ∧ k = .control
        then u.changeMode .pfDone else u).endEvent)
    ∧ ∀ page, s.holderPage = some page → s.link.pinWait = true →
      (s.pinned page = true → exec .pinWaitEnd s = .next s)
      ∧ (s.pinned page = false → exec .pinWaitEnd s = .next ((s.setLink { s.link with pinWait := false }).issue .writeEnable))

/-! ### Direct operations and HELD buffers -/

/-- A long operation's completion places its result record, sets result-ready and frees the slot (10 R192); a granted
DIRECT-ID, DIRECT-STATUS or DIRECT-READ issues its one memory operation and completes with OK and the bytes as the
memory returned them (06 R120 to R122); a direct request not granted within its limit ends with TIMED_OUT (05 R111).
The model's choice: log 4,
log 34 (what is kept after the end). -/
def Obligations.DirectOperationsComplete : Prop :=
  (∀ (m : Maint) (code : Completion) (data : List Byte), m.complete code data
    = { m with result := some ⟨m.slot, code, data⟩, ready := true, slot := .idle })
  ∧ (∀ (s : State) (code : Completion) (data : List Byte), s.completeLong code data
    = s.setMaint { s.maint with result := some ⟨s.maint.slot, code, data⟩, ready := true, slot := .idle })
  ∧ ∀ s : State, s.rstn = true →
    (∀ (op : LinkOp) (m : MemOp),
      (op = .directId ∧ m = .readId ∨ op = .directStatus ∧ m = .readStatus
        ∨ op = .directRead ∧ m = .readData (s.maint.direct.line.toNat * 32) 32) →
      s.grant op = ((s.setMaint { s.maint with direct := { s.maint.direct with waiting := false } }).setLink
        ({ s.link with holder := some op }.issue m)))
    ∧ (∀ b0 b1 b2 : Byte, s.link.stale = false → s.link.holder = some .directId → s.link.wire = some .readId →
      exec (.directIdCompletion b0 b1 b2) s
        = .next ((s.setLink { s.link.freed with wire := none }).completeLong .ok [b0, b1, b2]).endEvent)
    ∧ (∀ st : Byte, s.link.stale = false → s.link.holder = some .directStatus → s.link.wire = some .readStatus →
      exec (.directStatusCompletion st) s = .next (((s.setLink
        { s.link.freed with wire := none, quiet := s.link.quiet || !statusBusy st }).setMemory
          (s.memory.sawStatus st s.now)).completeLong .ok [st]).endEvent)
    ∧ (∀ (addr : Nat) (bytes : List Byte), s.link.holder = some .directRead →
      s.link.wire = some (.readData addr bytes.length) →
      exec (.directReadCompletion bytes) s
        = .next ((s.setLink { s.link.freed with wire := none }).completeLong .ok bytes).endEvent)
    ∧ (s.maint.direct.waiting = true → exec .directWaitLimitExpiry s = .next ((s.setMaint
        { s.maint with direct := { s.maint.direct with waiting := false } }).completeLong .timedOut []).endEvent)

/-- The tests of a direct operation in the order of 06 R118 and 10 R191: the slot, result-ready, the bridge mode, the line,
the marker page and the lane flags; with all passed it occupies the slot and waits in the arbiter. -/
def Obligations.DirectOperationsAreTested : Prop :=
  ∀ (s : State) (c : Instr) (k : LongKind) (line : BitVec 24) (flags : BitVec 32) (data : List Byte),
    AsksDirect c k line flags data → s.takesFrames = true →
    (s.maint.slot ≠ .idle → exec c s = .next (s.respond 0x01 []))
    ∧ (s.maint.slot = .idle → s.maint.ready = true → exec c s = .next (s.respond 0x02 []))
    ∧ (s.maint.slot = .idle → s.maint.ready = false → s.control.mode ≠ .running → s.control.mode ≠ .failed →
        exec c s = .next (s.respond 0x03 []))
    ∧ (s.maint.slot = .idle → s.maint.ready = false → s.control.mode = .running ∨ s.control.mode = .failed →
      (k = .directRead ∨ k = .directWrite → s.memoryBytes ≤ line.toNat * 32 → exec c s = .next (s.respond 0x05 []))
      ∧ (k = .directWrite → line.toNat * 32 < s.memoryBytes →
        (pageOfLine line.toNat = s.markerPage → exec c s = .next (s.respond 0x07 []))
        ∧ (pageOfLine line.toNat ≠ s.markerPage → flags = 0 → exec c s = .next (s.respond 0x05 [])))
      ∧ (s.directArgsOk k line flags → exec c s = .next (s.setMaint { s.maint with
          slot := k, direct := { line := line, flags := flags, data := data, waiting := true }, response := [0x00] }
        ).endEvent))

/-- RETRY-HELD: INVALID for another argument than 0 or 1; a HELD buffer becomes FILLED with fresh attempts, no reason
and no waiters and keeps its page, bytes, stamp and numbers; a buffer in another state answers NO_HELD (06 R113). The
model's choice: log 18. -/
def Obligations.RetryHeld : Prop :=
  ∀ (s : State) (arg : Byte), s.takesFrames = true →
    (arg ≠ 0 → arg ≠ 1 → exec (.retryHeld arg) s = .next (s.respond 0x05 []))
    ∧ ∀ b : Buf, (arg = 0 ∧ b = .pb0 ∨ arg = 1 ∧ b = .pb1) →
      ((s.buf b).state ≠ .held → exec (.retryHeld arg) s = .next (s.respond 0x08 []))
      ∧ ((s.buf b).state = .held → exec (.retryHeld arg) s = .next (((s.setBuf b { s.buf b with
          state := .filled, attempts := 0, failure := none, waiters := {}, retried := true }).respond 0x00 []).endEvent))

/-- RELEASE-HELD: a HELD buffer becomes FREE, loses its mark as held partner, is recorded with its count of lines, which
the response carries too, and takes the discard flag of a FLUSH for which it was judged (06 R115; 07 R146).  A line counts once, if the buffer carries a
byte of it (04 R66). -/
def Obligations.ReleaseHeld : Prop :=
  (∀ x : PageBuffer, x.lines.Nodup ∧ ∀ l, l ∈ x.lines ↔ x.Carries l)
  ∧ (∀ (s : State) (x : PageBuffer), s.bufJudged x = true ↔ x.state ≠ .free ∧ s.Judged x.firstSeq)
  ∧ ∀ (s : State) (arg : Byte), s.takesFrames = true →
    (arg ≠ 0 → arg ≠ 1 → exec (.releaseHeld arg) s = .next (s.respond 0x05 []))
    ∧ ∀ b : Buf, (arg = 0 ∧ b = .pb0 ∨ arg = 1 ∧ b = .pb1) →
      ((s.buf b).state ≠ .held → exec (.releaseHeld arg) s = .next (s.respond 0x08 []))
      ∧ ∀ u : State, (s.buf b).state = .held →
        u = ((s.setControl { s.control with flushDiscard := s.control.flushDiscard
            || (decide (s.maint.slot = .flush) && s.bufJudged (s.buf b)) }).setDrain { s.drain.setBuf b {} with
            partner := if s.drain.partner = some b then none else s.drain.partner }).addFault
          { kind := .heldReleased, source := .maint, epoch := s.control.epoch, page := some (s.buf b).page,
            seq := some (s.buf b).firstSeq, retained := some false, detail := BitVec.ofNat 8 (s.buf b).lines.length } →
        exec (.releaseHeld arg) s = .next (((if s.control.mode = .applying ∧ u.nothingRetained = true
          then u.completeApply else u).respond 0x00 [BitVec.ofNat 8 (s.buf b).lines.length]).endEvent)

/-! ### Configuration sets, APPLY and FLUSH -/

/-- WRITE-SHADOW and REVERT-SHADOW: nothing but the shadow set and the response changes, and in APPLYING nothing but the
response (07 R131, R132). -/
def Obligations.ShadowSetIsMaintained : Prop :=
  ∀ s : State, s.takesFrames = true →
    (∀ (item : Byte) (bytes : Item),
      (9 ≤ item.toNat → exec (.writeShadow item bytes) s = .next (s.respond 0x05 []))
      ∧ (item.toNat < 9 → s.control.mode = .applying → exec (.writeShadow item bytes) s = .next (s.respond 0x03 []))
      ∧ (item.toNat < 9 → s.control.mode ≠ .applying → ∀ u : ConfigSet,
          (∀ i < 9, u.item i = if i = item.toNat then bytes else s.shadow.item i) →
          exec (.writeShadow item bytes) s = .next ((s.setShadow u).respond 0x00 [])))
    ∧ (s.control.mode = .applying → exec .revertShadow s = .next (s.respond 0x03 []))
    ∧ (s.control.mode ≠ .applying → exec .revertShadow s = .next ((s.setShadow s.active).respond 0x00 []))

/-- The five tests of APPLY in their order, the validation of the nine items by their fields, and its acceptance (07 R136
to R138). The model's choice: log 16 (the acceptance's change of mode clears the pending stops). -/
def Obligations.ApplyIsTested : Prop :=
  (∀ (c : ConfigSet) (i : Nat), c.firstBad = some i ↔ i < 9 ∧ (∀ j < i, ¬ badItem (j < 8) (c.item j)) ∧ badItem (i < 8) (c.item i))
  ∧ (∀ c : ConfigSet, c.firstBad = none ↔ ∀ j < 9, ¬ badItem (j < 8) (c.item j))
  ∧ ∀ s : State, s.takesFrames = true →
    (s.maint.slot ≠ .idle → exec .apply s = .next (s.respond 0x01 []))
    ∧ (s.maint.slot = .idle → s.maint.ready = true → exec .apply s = .next (s.respond 0x02 []))
    ∧ (s.maint.slot = .idle → s.maint.ready = false →
      (s.control.mode ≠ .running → exec .apply s = .next (s.respond 0x03 []))
      ∧ (s.control.mode = .running →
        ((∃ b, (s.buf b).state = .held) → exec .apply s = .next (s.respond 0x04 []))
        ∧ ((∀ b, (s.buf b).state ≠ .held) →
          (∀ i, s.shadow.firstBad = some i → exec .apply s = .next (s.respond 0x05 [BitVec.ofNat 8 i]))
          ∧ (s.shadow.firstBad = none → exec .apply s = .next ((((s.setMaint
              { s.maint with slot := .apply, response := [0x00] }).setQueue
                { s.queue with entries := s.queue.entries.map fun e => { e with isOpen := false, timer := none } }).setControl
                { s.control with mode := .applying, stopPending := false, resumePending := false, fromStarting := false, request := none
                }).endEvent)))))

/-- APPLY completes in APPLYING with the queue empty and both buffers FREE, and not before: the shadow set becomes the
active one, the epoch advances, the result is OK with the new epoch, and the mode becomes RUNNING, where the pending
writes are offered (07 R140; 02 R41). The active set and the epoch change there and at cold reset and nowhere else (07
R130, R135). The model's choice: log 16, log 26. -/
def Obligations.ApplyCompletes : Prop :=
  (∀ s : State,
    (s.nothingRetained = true ↔ s.queue.entries = [] ∧ ∀ b, (s.buf b).state = .free)
    ∧ s.completeApply = (((s.setActive s.shadow).setControl { s.control with epoch := s.control.epoch + 1 }).completeLong
        .ok [s.control.epoch + 1]).changeMode .running)
  ∧ (∀ s : State, s.rstn = true →
    (s.control.mode = .applying → s.queue.entries = [] → (∀ b, (s.buf b).state = .free) →
      exec .applyCompletion s = .next ((((s.setActive s.shadow).setControl { s.control with
          mode := .running, epoch := s.control.epoch + 1, stopPending := false, resumePending := false,
          fromStarting := false, request := none }).setMaint { s.maint with
            result := some ⟨s.maint.slot, .ok, [s.control.epoch + 1]⟩, ready := true, slot := .idle }).writesOffered).endEvent)
    ∧ (s.control.mode ≠ .applying ∨ s.queue.entries ≠ [] ∨ (∃ b, (s.buf b).state ≠ .free) →
      exec .applyCompletion s = .next s))
  ∧ (∀ (c : Instr) (s t : State), exec c s = .next t → s.rstn = true → t.rstn = true →
    t.active = s.active ∧ t.control.epoch = s.control.epoch
      ∨ s.control.mode = .applying ∧ t.control.mode = .running ∧ t.active = s.shadow
        ∧ t.control.epoch = s.control.epoch + 1)

/-- FLUSH is tested, accepted with its mark and the closing of the OPEN entries, and judged: OK, or BLOCKED_HELD after
a discard, once nothing at or before the mark remains; BLOCKED_HELD with the lines that remain when the drain can make
no progress on them, HALTED or on a held remainder; and otherwise it goes on (07 R144 to R146). The model's choice: log 11,
log 34 (what is kept after the end). -/
def Obligations.FlushIsAcceptedAndJudged : Prop :=
  (∀ x : Seq, be24 x = [x.extractLsb' 16 8, x.extractLsb' 8 8, x.extractLsb' 0 8])
  ∧ ∀ s : State,
    (s.takesFrames = true →
      (s.maint.slot ≠ .idle → exec .flush s = .next (s.respond 0x01 []))
      ∧ (s.maint.slot = .idle → s.maint.ready = true → exec .flush s = .next (s.respond 0x02 []))
      ∧ (s.maint.slot = .idle → s.maint.ready = false →
        (s.control.mode = .starting ∨ s.control.mode = .applying ∨ s.control.mode = .failed →
          exec .flush s = .next (s.respond 0x03 []))
        ∧ (s.control.mode = .running ∨ s.control.mode = .pfDrain ∨ s.control.mode = .pfDone
            ∨ s.control.mode = .resuming →
          exec .flush s = .next ((((s.setMaint { s.maint with slot := .flush, response := [0x00] }).setControl
            { s.control with flushMark := s.queue.counter, flushDiscard := false }).setQueue { s.queue with
              entries := s.queue.entries.map fun e => { e with isOpen := false, timer := none } }).endEvent))))
    ∧ (s.rstn = true → s.maint.slot = .flush →
      (s.flushRemains = false → exec .flushCompletion s = .next (s.completeLong
        (if s.control.flushDiscard then .blockedHeld else .ok) (be24 s.control.flushMark ++ [0])))
      ∧ (s.flushRemains = true → s.flushBlocked = true → exec .flushCompletion s
        = .next (s.completeLong .blockedHeld (be24 s.control.flushMark ++ [BitVec.ofNat 8 s.flushLines])))
      ∧ (s.flushRemains = true → s.flushBlocked = false → exec .flushCompletion s = .next s))
    ∧ (s.flushRemains = true ↔
        (∃ e ∈ s.queue.entries, (s.queue.counter - s.control.flushMark).toNat ≤ (s.queue.counter - e.firstSeq).toNat)
        ∨ ∃ b, (s.buf b).state ≠ .free
          ∧ (s.queue.counter - s.control.flushMark).toNat ≤ (s.queue.counter - (s.buf b).firstSeq).toNat)
    ∧ (s.flushBlocked = true ↔ s.flushRemains = true ∧ s.NoProgress)
    ∧ ∀ lines, s.JudgedLines lines → s.flushLines = lines.length

/-! ### Start-up, power failure and cold reset -/

/-- PROBE: no memory answers when the three bytes are all 0x00 or all 0xFF; else READ-STATUS is polled until BUSY 0,
which requests MARKER_READ, or ends the sequence with a stop pending, or until the probe busy timer expires (08 R152,
R153, R158, R162).  A READ-ID left on the wire by a PROBE that timed out is not judged: what waited behind it is issued. The
model's choice: log 4, log 13, log 27,
log 33 (the unassigned bits). -/
def Obligations.ProbeEnds : Prop :=
  ∀ s : State, s.rstn = true →
    (∀ b0 b1 b2 : Byte, s.link.wire = some .readId → s.link.stale = false → s.link.holder = some .probe →
      ((b0 = 0 ∧ b1 = 0 ∧ b2 = 0 ∨ b0 = 255 ∧ b1 = 255 ∧ b2 = 255) → exec (.probeReadIdCompletion b0 b1 b2) s
        = .next ((((s.setLink { s.link.freed with wire := none }).setControl
          { s.control with probeTimer := false }).addFault
            { kind := .startupFailed, source := .control, epoch := s.control.epoch, detail := 0 }).changeMode .failed).endEvent)
      ∧ (¬ (b0 = 0 ∧ b1 = 0 ∧ b2 = 0) → ¬ (b0 = 255 ∧ b1 = 255 ∧ b2 = 255) → exec (.probeReadIdCompletion b0 b1 b2) s
        = .next (s.setLink { s.link with wire := some .readStatus }).endEvent))
    ∧ (∀ st : Byte, s.link.wire = some .readStatus → s.link.stale = false → s.link.holder = some .probe →
      statusBusy st = false → ∀ u, u = ((s.setLink { s.link.freed with wire := none, quiet := true }).setMemory
        (s.memory.sawStatus st s.now)).setControl { s.control with probeTimer := false } →
      exec (.readStatusCompletion st) s = .next (if s.control.stopPending then u.changeMode .pfDone
        else u.setControl { u.control with request := some .markerRead }).endEvent)
    ∧ (∀ b0 b1 b2 : Byte, s.link.wire = some .readId → s.link.stale = true → exec (.probeReadIdCompletion b0 b1 b2) s
        = .next (s.setLink { s.link with
            stale := false, wire := s.link.queued, queued := none,
            programTimer := if s.link.settling && s.link.queued.isSome then some s.programTimeout else s.link.programTimer
          }).endEvent)
    ∧ (s.control.probeTimer = true → s.link.holder = some .probe → exec .probeBusyTimerExpiry s
        = .next ((((s.setLink { s.link.freed with stale := s.link.wire.isSome, queued := none }).setControl
          { s.control with probeTimer := false }).addFault
            { kind := .startupFailed, source := .control, epoch := s.control.epoch, detail := 1 }).changeMode .failed).endEvent)

/-- MARKER_READ: the record is classified into the report, UNCLEAN and TRUNCATED record PREVIOUS_LOSS, and MARKER_WRITE is
requested, or with a stop pending the mode becomes PF_DONE (08 R154, R155, R162). -/
def Obligations.MarkerIsReadAndReported : Prop :=
  ∀ (s u v : State) (bytes : List Byte) (addr : Nat) (report : MarkerReport), s.rstn = true →
    s.link.holder = some .markerRead → s.link.wire = some (.readData addr bytes.length) →
    (decodeMarker bytes = none ∧ report = { previous := .blank }
      ∨ ∃ r, decodeMarker bytes = some r ∧ report =
        { previous := (match r.state with
            | .running => .unclean
            | .clean => .clean
            | .truncated => .truncated)
          bootCount := r.bootCount, atRisk := r.atRisk, firstSeq := r.firstSeq, lastSeq := r.lastSeq, epoch := r.epoch }) →
    u = (s.setLink { s.link.freed with wire := none }).setControl { s.control with report := report } →
    v = (if report.previous = .unclean ∨ report.previous = .truncated then u.addFault
        { kind := .previousLoss, source := .control, epoch := s.control.epoch, page := some s.markerPage,
          detail := if report.previous = .truncated then 3 else 4 } else u) →
    exec (.markerReadCompletion bytes) s = .next (if s.control.stopPending then v.changeMode .pfDone
      else v.setControl { v.control with request := some .markerWrite }).endEvent

/-- The marker record's 16 bytes stand in the order of 10 R205: the signature, the state code, the boot count, the at-risk
count, the two sequence numbers, the epoch and the check byte.  They sum to 0 and read back as the record, and 16 bytes that read as a record are its bytes, with
a count of at most 40.  No bytes with another signature, another sum, a state code that names no state or a count above 40
are a record (08 R150, R154; 10 R205). -/
def Obligations.MarkerRecordRoundTrip : Prop :=
  (∀ r : MarkerRecord, ∃ state check : Byte,
    r.encode = [0xA5, 0x5A, 0xC3, 0x3C, state, r.bootCount.extractLsb' 8 8, r.bootCount.extractLsb' 0 8, r.atRisk,
      r.firstSeq.extractLsb' 16 8, r.firstSeq.extractLsb' 8 8, r.firstSeq.extractLsb' 0 8,
      r.lastSeq.extractLsb' 16 8, r.lastSeq.extractLsb' 8 8, r.lastSeq.extractLsb' 0 8, r.epoch, check]
    ∧ state.toNat = (match r.state with
        | .running => 1 | .clean => 2 | .truncated => 3))
  ∧ (∀ r : MarkerRecord, r.atRisk.toNat ≤ 40 → decodeMarker r.encode = some r)
  ∧ (∀ (bs : List Byte) (r : MarkerRecord), bs.length = 16 → decodeMarker bs = some r → r.encode = bs ∧ r.atRisk.toNat ≤ 40)
  ∧ (∀ r : MarkerRecord, r.encode.length = 16 ∧ r.encode.foldl (· + ·) 0 = 0 ∧ r.encode.take 4 = [0xA5, 0x5A, 0xC3, 0x3C])
  ∧ (∀ r : MarkerRecord, 40 < r.atRisk.toNat → decodeMarker r.encode = none)
  ∧ ∀ bs : List Byte,
    bs.take 4 ≠ [0xA5, 0x5A, 0xC3, 0x3C] ∨ bs.foldl (· + ·) 0 ≠ 0
      ∨ (bs.getD 4 0 ≠ 1 ∧ bs.getD 4 0 ≠ 2 ∧ bs.getD 4 0 ≠ 3) ∨ 40 < (bs.getD 7 0).toNat → decodeMarker bs = none

/-- The grant of a marker write fixes its record and the boot count, ends in PF_DRAIN a FLUSH for which something is still
judged, and starts the first attempt (08 R156, R167, R171; 07 R147).  The ends of a marker write: after success, or after the PF_DRAIN write's one attempt or the last of the others,
the mode follows, with its fault record at a failure; before the limit a further attempt starts (08 R156 to R158,
R162, R164, R168, R170, R171). The model's choice: log 15,
log 33 (the unassigned bits),
log 34 (what is kept after the end). -/
def Obligations.MarkerWriteEnds : Prop :=
  (∀ (s : State) (r : MarkerRecord) (m : Maint),
    (s.control.mode = .pfDrain ∧ s.IsDrainRecord r
      ∨ s.control.mode = .resuming ∧ r = { state := .running, bootCount := s.control.bootCount, epoch := s.control.epoch }
      ∨ s.control.mode = .starting
        ∧ r = { state := .running, bootCount := s.control.report.bootCount + 1, epoch := s.control.epoch }) →
    m = (if s.control.mode = .pfDrain ∧ s.maint.slot = .flush ∧ s.flushRemains = true then s.maint.complete
      (if s.flushBlocked then .blockedHeld else .truncated) (be24 s.control.flushMark ++ [BitVec.ofNat 8 s.flushLines])
      else s.maint) →
    s.grant .markerWrite = (((s.setLink { s.link with holder := some .markerWrite }).setControl { s.control with
      request := none, marker := { record := r }, bootCount := r.bootCount }).setMaint m).startMarkerAttempt)
  ∧ ∀ (s : State) (c : Instr) (l : Link) (m : SerialMemory),
    (∀ u, s.MarkerSucceeds c l m → u = (s.setLink l.freed).setMemory m →
      (s.control.mode = .starting →
        exec c s = .next (u.changeMode (if s.control.stopPending then .pfDone else .running)).endEvent)
      ∧ (s.control.mode = .pfDrain →
        exec c s = .next (u.changeMode (if s.control.resumePending then .resuming else .pfDone)).endEvent)
      ∧ (s.control.mode = .resuming →
        exec c s = .next (if s.control.filtered then u.enterPfDrain else u.changeMode .running).endEvent))
    ∧ ∀ (r : FailReason) (u v : State) (detail : Byte), s.MarkerFails c r l m →
      u = ((s.setLink l).setMemory m).setControl
        { s.control with marker := { s.control.marker with failure := some r } } →
      v = u.setLink l.freed → detail = BitVec.ofNat 8 s.control.marker.attempts ||| (r.code <<< 3) →
      (s.control.mode ≠ .pfDrain → s.control.marker.attempts < s.retryLimit →
        exec c s = .next u.startMarkerAttempt.endEvent)
      ∧ (s.control.mode = .starting → s.retryLimit ≤ s.control.marker.attempts →
        exec c s = .next (((v.addFault
          { kind := .startupFailed, source := .control, epoch := s.control.epoch, page := some s.markerPage,
            detail := 2 ||| (r.code <<< 3) }).changeMode .failed).endEvent))
      ∧ (s.control.mode = .pfDrain →
        exec c s = .next (((v.addFault
          { kind := .markerFailed, source := .control, epoch := s.control.epoch, page := some s.markerPage,
            detail := detail }).changeMode (if s.control.resumePending then .resuming else .pfDone)).endEvent))
      ∧ (s.control.mode = .resuming → s.retryLimit ≤ s.control.marker.attempts → ∀ w,
        w = v.addFault
          { kind := .markerFailed, source := .control, epoch := s.control.epoch, page := some s.markerPage,
            detail := detail } →
        exec c s = .next (if s.control.filtered then w.enterPfDrain else w.changeMode .running).endEvent)

/-- The PFAILn pin and the filtered assertion: a fall of the pin on a released level and a rise on an asserted one run
the filter, and the contrary stop it; an assertion enters PF_DRAIN from RUNNING, APPLYING and RESUMING, ends STARTING
or marks it to stop, withdraws a pending resume, and elsewhere sets the level alone; the pending writes that the entry to
PF_DRAIN refuses are counted in PF_REFUSED (08 R160 to R164; 07 R142; 05 R111; 01 R16). The model's choice: log 16, log 19. -/
def Obligations.AssertionEntersPfDrain : Prop :=
  (∀ s : State, s.controlOnLink = true ↔ s.link.holder = some .probe ∨ s.link.holder = some .markerRead
    ∨ s.link.holder = some .markerWrite ∨ s.link.holder = some (.settle .control))
  ∧ (∀ s : State, s.rstn = true → (∀ low, s.control.pfailLow = !low →
    exec (if low then .pfailnFall else .pfailnRise) s = .next (s.setControl
      { s.control with pfailLow := low, filterTimer := low != s.control.filtered })))
  ∧ ∀ s u v : State, s.rstn = true → s.control.filterTimer = true → s.control.pfailLow = true →
    s.control.filtered = false → u = s.setControl { s.control with filtered := true, filterTimer := false } →
    v = u.enterPfDrain →
    (s.control.mode = .running ∨ s.control.mode = .applying
        ∨ (s.control.mode = .resuming ∧ s.link.holder ≠ some .markerWrite) →
      exec .filteredAssertion s = .next v.endEvent
        ∧ v.control.mode = .pfDrain ∧ v.control.budget = s.holdUpBudget ∧ v.queue.counter = s.queue.counter
        ∧ v.queue.entries = s.queue.entries.map (fun e => { e with isOpen := false, timer := none })
        ∧ v.drain = { s.drain with chargeable := false }
        ∧ (s.control.mode ≠ .resuming → ∀ p, v.port p
            = if (s.port p).pendingWrite then (s.port p).completed true none else s.port p)
        ∧ (s.control.mode ≠ .resuming → v.faults = { s.faults with counters := { s.faults.counters with
            pfRefused := s.faults.counters.pfRefused
              + BitVec.ofNat 32 (bit (s.port .A).pendingWrite + bit (s.port .B).pendingWrite) } })
        ∧ (s.control.mode = .resuming → v.ports = s.ports ∧ v.faults = s.faults)
        ∧ (s.control.mode = .applying → s.maint.direct.waiting = false →
            v.maint = s.maint.complete .abortedPfail [s.control.epoch])
        ∧ (s.control.mode ≠ .applying → s.maint.direct.waiting = true → v.maint = ({ s.maint with
            direct := { s.maint.direct with waiting := false } } : Maint).complete .abortedPfail [])
        ∧ (s.control.mode ≠ .applying → s.maint.direct.waiting = false → v.maint = s.maint))
    ∧ (s.control.mode = .starting → exec .filteredAssertion s = .next (if s.controlOnLink
        then u.setControl { u.control with stopPending := true } else u.changeMode .pfDone).endEvent)
    ∧ (s.control.mode = .pfDrain → exec .filteredAssertion s
        = .next (u.setControl { u.control with resumePending := false }).endEvent)
    ∧ (s.control.mode = .pfDone ∨ s.control.mode = .failed
        ∨ (s.control.mode = .resuming ∧ s.link.holder = some .markerWrite) →
      exec .filteredAssertion s = .next u.endEvent)

/-- A filtered release acts by the bridge mode (08 R162, R170), and a mode that is entered begins with its own request,
its own pending stops and, in PF_DONE, the memory of where it came from (08 R149, R151, R171). The model's choice: log 16
(every change of mode clears the pending stops). -/
def Obligations.ReleaseResumes : Prop :=
  (∀ (s : State) (m : Mode), (s.changeMode m).control = { s.control with
      mode := m, stopPending := false, resumePending := false
      fromStarting := decide (m = .pfDone ∧ (s.control.mode = .starting ∨ s.control.mode = .failed))
      request := if m = .starting then some .probe else if m = .resuming then some .markerWrite else none })
  ∧ ∀ s u : State, s.rstn = true → s.control.filterTimer = true → s.control.pfailLow = false →
    s.control.filtered = true → u = s.setControl { s.control with filtered := false, filterTimer := false } →
    (s.control.mode = .pfDrain → exec .filteredRelease s = .next (if s.link.holder = some .markerWrite
      then u.setControl { u.control with resumePending := true } else u.changeMode .running).endEvent)
    ∧ (s.control.mode = .pfDone → exec .filteredRelease s
        = .next (u.changeMode (if s.control.fromStarting then .starting else .resuming)).endEvent)
    ∧ (s.control.mode = .starting → exec .filteredRelease s
        = .next (u.setControl { u.control with stopPending := false }).endEvent)
    ∧ (s.control.mode = .running ∨ s.control.mode = .applying ∨ s.control.mode = .resuming ∨ s.control.mode = .failed →
      exec .filteredRelease s = .next u.endEvent)

/-- RSTn falls: every block at its cold-reset value, the memory as the cut operation leaves it: a PAGE-WRITE of
which it had received at least one byte writes those bytes, and nothing else cut short has an effect (05 R96, R98). RSTn rises: the straps
are sampled, both sets take their cold-reset values, a port with strobes active waits for them in ENDING, the frames
wait for SSn, the filter begins as released, and PROBE is granted (08 R151, R152, R160, R172; 11 R206; 01 R6; 10 R189;
05 R98).  After the fall every output stands as the table of 11 R206 gives it: the host lines released and not driven, MCSn
high, MCK and MDO low, SDO not driven and IRQn released. The model's choice: log 1, log 2, log 10, log 28. -/
def Obligations.ResetFallsAndRises : Prop :=
  (∀ (m : SerialMemory) (now : Nat),
    (∀ wire, (∀ addr data, wire ≠ some (.pageWrite addr data)) → m.cut wire now = m)
    ∧ ∀ addr data got, got = data.take (Config.cutPageWriteBytes now) → m.cut (some (.pageWrite addr data)) now
      = if got = [] then m else m.pageWrite addr got)
  ∧ (∀ s : State, s.rstn = true → exec .rstnFall s = .next { State.reset with
      control := { State.reset.control with pfailLow := s.control.pfailLow }
      memory := s.memory.cut s.link.wire s.now, now := s.now + 1, pending := s.pending })
  ∧ (∀ s t : State, s.rstn = true → exec .rstnFall s = .next t →
    (∀ p, t.waitLow p = false ∧ t.berrLow p = false ∧ (t.port p).dataOut = none) ∧ t.mcsLow = false
      ∧ (∀ half, t.mckHigh half = false) ∧ (∀ k, t.mdoHigh k = false) ∧ (∀ ssn, t.sdo ssn = none ∧ ∀ j, t.sdoHigh ssn j = none) ∧ t.irqLow = false)
  ∧ ∀ (s : State) (size1 size0 dclass strobesA strobesB ssnLow : Bool), s.rstn = false →
    exec (.rstnRise size1 size0 dclass strobesA strobesB ssnLow) s = .next { State.reset with
      rstn := true
      straps := ⟨size1, size0, dclass⟩
      shadow := ConfigSet.coldReset ⟨size1, size0, dclass⟩
      active := ConfigSet.coldReset ⟨size1, size0, dclass⟩
      ports := { a := { state := if strobesA then .ending else .idle }, b := { state := if strobesB then .ending else .idle } }
      control := { State.reset.control with
        pfailLow := s.control.pfailLow, filterTimer := s.control.pfailLow, probeTimer := true }
      link := { holder := some .probe, wire := some .readId }
      maint := { awaitSsn := ssnLow }
      memory := s.memory, now := s.now + 2, pending := s.pending }

/-- Both sets at cold reset: window 0 of the strapped size from address 0, POSTED or by DCLASS high THROUGH, the other
windows off, all for both ports, and the globals of 07 R129; they are valid (07 R128, R129; 01 R7).  SIZE1 and SIZE0 strap 2,
4, 8 or 16 MiB (00 FIXED QUANTITIES; 11 R206), and the marker page is the last page of the memory.  The globals stand in the
bytes of 10 R202 with the stall limits of 01 R18, and the blocks read them from the active set (07 R130). -/
def Obligations.ColdResetConfiguration : Prop :=
  (∀ st : Straps, st.memoryBytes = (match st.size1, st.size0 with
    | false, false => 2 * 1048576
    | false, true => 4 * 1048576
    | true, false => 8 * 1048576
    | true, true => 16 * 1048576))
  ∧ (∀ s : State, s.memoryBytes = s.straps.memoryBytes ∧ s.markerAddr = s.memoryBytes - 256
    ∧ s.markerPage * 256 = s.markerAddr ∧ (s.markerPage + 1) * 256 = s.memoryBytes)
  ∧ (∀ it : Item, ∃ b0 b1 b2 b3 b4 b5 b6 b7 b8 b9 : Byte, itemBytes it = [b0, b1, b2, b3, b4, b5, b6, b7, b8, b9]
    ∧ globalsWindow it = b0.toNat * 256 + b1.toNat ∧ globalsHwm it = b2.toNat ∧ globalsStallCode it = b3.toNat
    ∧ globalsTimeout it = b4.toNat ∧ globalsRetryLimit it = b5.toNat ∧ globalsVerifyCode it = b6.toNat
    ∧ globalsBudget it = b7.toNat ∧ globalsFillUpper it = b8 ∧ globalsFillLower it = b9)
  ∧ (List.range 8).map stallLimitMicros = [16, 64, 256, 1000, 4000, 16000, 64000, 256000]
  ∧ (∀ (s : State) (g : Item), g = s.active.item 8 →
    s.coalesceWindow = globalsWindow g ∧ s.hwm = globalsHwm g ∧ s.stallLimit = stallLimitMicros (globalsStallCode g)
    ∧ s.programTimeout = globalsTimeout g ∧ s.retryLimit = globalsRetryLimit g
    ∧ (s.verify = true ↔ globalsVerifyCode g = 1) ∧ s.holdUpBudget = globalsBudget g
    ∧ s.fill = globalsFillUpper g ++ globalsFillLower g)
  ∧ ∀ st : Straps, (ConfigSet.coldReset st).firstBad = none
    ∧ itemEnable (ConfigSet.coldReset st).w0 = true ∧ itemBase (ConfigSet.coldReset st).w0 = 0
    ∧ 4096 * 2 ^ itemExponent (ConfigSet.coldReset st).w0 = st.memoryBytes
    ∧ windowClass (ConfigSet.coldReset st).w0 = (if st.dclass then .through else .posted)
    ∧ (∀ p, windowPermits (ConfigSet.coldReset st).w0 p = true)
    ∧ (∀ i, 1 ≤ i → i < 8 → itemEnable ((ConfigSet.coldReset st).item i) = false
        ∧ itemBase ((ConfigSet.coldReset st).item i) = 0 ∧ itemExponent ((ConfigSet.coldReset st).item i) = 0
        ∧ windowClass ((ConfigSet.coldReset st).item i) = .posted
        ∧ ∀ p, windowPermits ((ConfigSet.coldReset st).item i) p = true)
    ∧ globalsWindow (ConfigSet.coldReset st).globals = 16 ∧ globalsHwm (ConfigSet.coldReset st).globals = 16
    ∧ stallLimitMicros (globalsStallCode (ConfigSet.coldReset st).globals) = 1000
    ∧ globalsTimeout (ConfigSet.coldReset st).globals = 10 ∧ globalsRetryLimit (ConfigSet.coldReset st).globals = 3
    ∧ globalsVerifyCode (ConfigSet.coldReset st).globals = 1 ∧ globalsBudget (ConfigSet.coldReset st).globals = 8
    ∧ globalsFillUpper (ConfigSet.coldReset st).globals = 0xFF ∧ globalsFillLower (ConfigSet.coldReset st).globals = 0xFF

/-! ### Faults, counters, the interrupt line and the maintenance link -/

/-- READ-FAULT removes the oldest record and answers it with the overflow count as it stood and the records left; an emptied
list resets the overflow count; an empty list answers NONE_PENDING (09 R177).  The list keeps 8 records and counts what it
drops (09 R173, R180).  A record travels in 13 bytes: kind, source with the presence flags, retained, epoch, address,
sequence, page and detail (10 R203).
The model's choice: log 33 (the unassigned bits). -/
def Obligations.FaultListIsRead : Prop :=
  (∀ (s : State) (r : FaultRecord) (rest : List FaultRecord), s.takesFrames = true → s.faults.list = r :: rest →
    exec .readFault s = .next ((s.setFaults { s.faults with
        list := rest, overflow := if rest = [] then 0 else s.faults.overflow }).respond 0x00
      (r.encode ++ [s.faults.overflow, BitVec.ofNat 8 rest.length])))
  ∧ (∀ s : State, s.takesFrames = true → s.faults.list = [] →
    exec .readFault s = .next (s.respond 0x09 []) ∧ (s.faults.Lawful → s.faults.overflow = 0))
  ∧ (∀ (s : State) (r : FaultRecord), s.addFault r = s.setFaults (s.faults.append r))
  ∧ ∀ (u : FaultUnit) (r : FaultRecord),
    (u.list.length < 8 → u.append r = { u with list := u.list ++ [r] })
    ∧ (8 ≤ u.list.length → u.append r = { u with overflow := if u.overflow = 255 then 255 else u.overflow + 1 })
    ∧ ∃ kind flags : Byte,
      r.encode = [kind, flags, if r.retained = some true then 1 else 0, r.epoch,
        (r.address.getD 0).extractLsb' 16 8, (r.address.getD 0).extractLsb' 8 8, (r.address.getD 0).extractLsb' 0 8,
        (r.seq.getD 0).extractLsb' 16 8, (r.seq.getD 0).extractLsb' 8 8, (r.seq.getD 0).extractLsb' 0 8,
        BitVec.ofNat 8 (r.page.getD 0 / 256), BitVec.ofNat 8 (r.page.getD 0), r.detail]
      ∧ kind.toNat = (match r.kind with
          | .writeRefused => 1 | .readRefused => 2 | .stallExpired => 3 | .programFailed => 4 | .drainHalted => 5
          | .heldSuperseded => 6 | .heldReleased => 7 | .previousLoss => 8 | .startupFailed => 9 | .markerFailed => 10)
      ∧ flags.toNat = (match r.source with
          | .portA => 0 | .portB => 1 | .drain => 2 | .control => 3 | .maint => 4)
        + 16 * bit r.address.isSome + 32 * bit r.seq.isSome + 64 * bit r.page.isSome + 128 * bit r.retained.isSome

/-- The commands that only read change nothing but the response (07 R133; 09 R182; 10 R195, R196).  RESULT returns the result
record once (10 R193); a record's 34 bytes are its kind, its code and its data, filled up with 0x00 (10 R204).  The STATUS
record, the marker report and the counters travel in the bytes of 10 R201, of 10 R205 and in the order of 09 R181, R182.
The model's choice: log 33 (the unassigned bits). -/
def Obligations.ReadingCommandsAndResult : Prop :=
  (∀ (s : State) (code : Byte) (data : List Byte), s.respond code data
    = s.setMaint { s.maint with response := code :: data })
  ∧ (∀ (s : State) (c : Instr) (response : List Byte), s.takesFrames = true → s.ReadsOnly c response →
    exec c s = .next (s.setMaint { s.maint with response := response }))
  ∧ ((∀ s : State, s.takesFrames = true →
    (∀ r, s.maint.ready = true → s.maint.result = some r → exec .result s = .next (s.setMaint
      { s.maint with ready := false, response := 0x00 :: r.encode }))
    ∧ (s.maint.ready = false → exec .result s = .next (s.respond 0x09 [])))
  ∧ ∀ r : ResultRecord, r.data.length ≤ 32 →
    r.encode = r.kind.code :: r.code.code :: (r.data ++ List.replicate (32 - r.data.length) 0))
  ∧ (∀ s : State, s.reads.fetches.length ≤ 2 → ∃ mode flags bufs slot : Byte,
    s.statusRecord = [mode, flags, BitVec.ofNat 8 s.queue.entries.length,
      BitVec.ofNat 8 (s.queue.entries.countP fun e => e.isOpen), bufs,
      BitVec.ofNat 8 ((s.buf .pb0).page / 256), BitVec.ofNat 8 (s.buf .pb0).page,
      BitVec.ofNat 8 ((s.buf .pb1).page / 256), BitVec.ofNat 8 (s.buf .pb1).page,
      slot, BitVec.ofNat 8 s.faults.list.length, s.faults.overflow, s.control.epoch, s.maint.frameErrors,
      BitVec.ofNat 8 s.control.budget]
    ∧ mode.toNat = (match s.control.mode with
        | .starting => 0 | .running => 1 | .applying => 2 | .pfDrain => 3 | .pfDone => 4 | .resuming => 5 | .failed => 6)
    ∧ flags.toNat = bit (decide ((s.buf .pb0).state = .held ∧ (s.buf .pb1).state = .held)) + 2 * bit s.maint.ready
        + 4 * bit s.control.filtered + 8 * bit (s.waitLow .A) + 16 * bit (s.waitLow .B)
    ∧ bufs.toNat = (s.buf .pb0).state.code.toNat + 16 * (s.buf .pb1).state.code.toNat
    ∧ slot.toNat = s.reads.fetches.length + 16 * s.maint.slot.code.toNat)
  ∧ (∀ (b : BufState) (k : LongKind) (c : Completion),
    b.code.toNat = (match b with
      | .free => 0 | .filled => 1 | .gapRead => 2 | .programming => 3 | .verifying => 4 | .held => 5)
    ∧ k.code.toNat = (match k with
      | .idle => 0 | .apply => 1 | .flush => 2 | .directId => 3 | .directStatus => 4 | .directRead => 5 | .directWrite => 6)
    ∧ c.code.toNat = (match c with
      | .ok => 0 | .conflict => 1 | .timedOut => 2 | .memFail => 3 | .abortedPfail => 4 | .abortedHeld => 5
      | .blockedHeld => 6 | .truncated => 7))
  ∧ (∀ r : MarkerReport, ∃ previous : Byte,
    r.encode = [previous, r.bootCount.extractLsb' 8 8, r.bootCount.extractLsb' 0 8, r.atRisk,
      r.firstSeq.extractLsb' 16 8, r.firstSeq.extractLsb' 8 8, r.firstSeq.extractLsb' 0 8,
      r.lastSeq.extractLsb' 16 8, r.lastSeq.extractLsb' 8 8, r.lastSeq.extractLsb' 0 8, r.epoch]
    ∧ previous.toNat = (match r.previous with
        | .noReport => 0 | .blank => 1 | .clean => 2 | .truncated => 3 | .unclean => 4))
  ∧ ∀ c : Counters, c.encode = [c.writesAccepted, c.merges, c.pageWrites, c.programRetries, c.stallExpiries, c.pfRefused].flatMap
    fun x => [x.extractLsb' 24 8, x.extractLsb' 16 8, x.extractLsb' 8 8, x.extractLsb' 0 8]

/-- CLEAR-COUNTERS clears the six counters and the frame error count and nothing else (09 R183).  SET-IRQ-MASK sets both
enables, which are off after cold reset and which no other command changes (07 R134; 09 R186); IRQn is low exactly while a
record or a result waits with its enable on (09 R184).  A counter advances by one, with the wrap of 32 bits, and touches no
other (09 R181). -/
def Obligations.CountersAndInterruptLine : Prop :=
  (∀ (s : State) (c : Counters), c = s.faults.counters →
    s.countWriteAccepted = s.setFaults { s.faults with counters := { c with writesAccepted := c.writesAccepted + 1 } }
    ∧ s.countMerge = s.setFaults { s.faults with counters := { c with merges := c.merges + 1 } }
    ∧ s.countPageWrite = s.setFaults { s.faults with counters := { c with pageWrites := c.pageWrites + 1 } }
    ∧ s.countRetry = s.setFaults { s.faults with counters := { c with programRetries := c.programRetries + 1 } }
    ∧ s.countStall = s.setFaults { s.faults with counters := { c with stallExpiries := c.stallExpiries + 1 } }
    ∧ s.countPfRefused = s.setFaults { s.faults with counters := { c with pfRefused := c.pfRefused + 1 } })
  ∧ (∀ s : State, s.takesFrames = true → exec .clearCounters s = .next ((s.setFaults { s.faults with
      counters := { writesAccepted := 0, merges := 0, pageWrites := 0, programRetries := 0, stallExpiries := 0, pfRefused := 0 }
    }).setMaint { s.maint with frameErrors := 0, response := [0x00] }))
  ∧ ((∀ (s : State) (mask : Byte), s.takesFrames = true → exec (.setIrqMask mask) s = .next ((s.setFaults { s.faults with
      faultEnable := mask.getLsbD 0, doneEnable := mask.getLsbD 1 }).respond 0x00 []))
  ∧ (∀ s : State, s.rstn = true → ∃ t, exec .rstnFall s = .next t
      ∧ t.faults.faultEnable = false ∧ t.faults.doneEnable = false ∧ t.irqLow = false)
  ∧ (∀ (c : Instr) (s t : State), exec c s = .next t → s.rstn = true → t.rstn = true → (∀ mask, c ≠ .setIrqMask mask) →
      t.faults.faultEnable = s.faults.faultEnable ∧ t.faults.doneEnable = s.faults.doneEnable)
  ∧ ∀ s : State, s.irqLow = true ↔
      (s.faults.list ≠ [] ∧ s.faults.faultEnable = true) ∨ (s.maint.ready = true ∧ s.faults.doneEnable = true))

/-- A frame cut short before its command is counted up to 255, an unknown code answers UNKNOWN, and after a reset with SSn
low frames are taken again once SSn has risen (10 R188 to R190); REPROBE restarts the start-up sequence in FAILED, or enters
PF_DONE while PFAILn is asserted (08 R159).  SDO is undriven while SSn is high; in a frame the part drives 0xFF up to the
last argument byte, then the response, and then 0xFF again, each byte most significant bit first (10 R187). A frame is
cut short before its command when it ends after a first edge of SCK and before the last bit of the argument bytes that its
code fixes in 10 R199 (10 R188). The model's choice: log 16 (the pending stops). -/
def Obligations.FramesAndReprobe : Prop :=
  (∀ s : State, s.takesFrames = true ↔ s.rstn = true ∧ s.maint.awaitSsn = false)
  ∧ (∀ (code : Byte) (n : Nat), argBytes code = some n ↔
    n = 0 ∧ code ∈ [0x01, 0x02, 0x03, 0x10, 0x11, 0x12, 0x23, 0x30, 0x31, 0x38, 0x39, 0x48]
    ∨ n = 1 ∧ code ∈ [0x13, 0x20, 0x21, 0x40, 0x41] ∨ n = 3 ∧ code = 0x3A ∨ n = 11 ∧ code = 0x22 ∨ n = 39 ∧ code = 0x3B)
  ∧ (∀ (bytes : List Byte) (bits : Nat), cutBeforeCommand bytes bits = true ↔ bits < 8 ∧ 0 < 8 * bytes.length + bits
    ∧ ∀ code args, bytes = code :: args → 8 * bytes.length + bits < 8 * (1 + (argBytes code).getD 0))
  ∧ (∀ s : State, s.takesFrames = true → s.sdo .high = none ∧ s.ssnBetween = .high
    ∧ ∀ n i, (i ≤ n → s.sdo (.low n i) = some 0xFF) ∧ s.sdo (.low n (n + 1 + i)) = some (s.maint.response.getD i 0xFF))
  ∧ (∀ s : State, s.takesFrames = true → ∀ j < 8, s.sdoHigh .high j = none
    ∧ ∀ n i, (i ≤ n → s.sdoHigh (.low n i) j = some true)
      ∧ s.sdoHigh (.low n (n + 1 + i)) j = some ((s.maint.response.getD i 0xFF).getLsbD (7 - j)))
  ∧ (∀ (s : State) (bytes : List Byte) (bits : Nat), s.takesFrames = true → cutBeforeCommand bytes bits = true →
    exec (.frameCutShort bytes bits) s = .next (s.setMaint { s.maint with
      frameErrors := if s.maint.frameErrors = 255 then 255 else s.maint.frameErrors + 1 }))
  ∧ (∀ (s : State) (code : Byte), s.takesFrames = true → argBytes code = none →
    exec (.unknownCommand code) s = .next (s.respond 0x06 []))
  ∧ (∀ s : State, s.rstn = true →
    exec .ssnRiseAfterReset s = .next (s.setMaint { s.maint with awaitSsn := false })
      ∧ (s.setMaint { s.maint with awaitSsn := false }).takesFrames = true)
  ∧ ∀ s : State, s.takesFrames = true →
    (s.control.mode ≠ .failed → exec .reprobe s = .next (s.respond 0x03 []))
    ∧ (s.control.mode = .failed → exec .reprobe s = .next ((((s.setControl { s.control with
        mode := if s.control.filtered then .pfDone else .starting, stopPending := false, resumePending := false
        fromStarting := s.control.filtered, request := if s.control.filtered then none else some .probe
      }).respond 0x00 [])).endEvent))

/-- A frame that carries a command's bytes, whatever follows them, is that command, and a frame that ends before them
is cut short: decoding what the supervisor sends gives the command it sent (10 R187, R188, R190, R199).  The bytes are the command codes of 10
R199, each followed by its arguments, a line most significant byte first and the lane flags of offsets 0 to 7 first. On SDI
each byte travels most significant bit first, one bit at each rising edge of SCK (10 R187), and what a byte cut short carried
does not count (10 R188). The model's choice: log 30. -/
def Obligations.FramesDecodeToTheirCommand : Prop :=
  ([.status, .result, .readMarkerReport, .readFault, .readCounters, .clearCounters, .revertShadow, .apply, .flush, .directId,
      .directStatus, .reprobe].map encodeFrame
    = [0x01, 0x02, 0x03, 0x10, 0x11, 0x12, 0x23, 0x30, 0x31, 0x38, 0x39, 0x48].map fun code : Byte => some [code])
  ∧ (∀ (x : Byte) (it : Item) (line : BitVec 24) (flags : BitVec 32) (data : List Byte),
    encodeFrame (.setIrqMask x) = some [0x13, x] ∧ encodeFrame (.readActive x) = some [0x20, x]
    ∧ encodeFrame (.readShadow x) = some [0x21, x] ∧ encodeFrame (.writeShadow x it) = some (0x22 :: x :: itemBytes it)
    ∧ encodeFrame (.retryHeld x) = some [0x40, x] ∧ encodeFrame (.releaseHeld x) = some [0x41, x]
    ∧ encodeFrame (.unknownCommand x) = some [x]
    ∧ encodeFrame (.directRead line)
      = some [0x3A, line.extractLsb' 16 8, line.extractLsb' 8 8, line.extractLsb' 0 8]
    ∧ encodeFrame (.directWrite line flags data)
      = some ([0x3B, line.extractLsb' 16 8, line.extractLsb' 8 8, line.extractLsb' 0 8, flags.extractLsb' 0 8,
        flags.extractLsb' 8 8, flags.extractLsb' 16 8, flags.extractLsb' 24 8] ++ data))
  ∧ (∀ (bytes : List Byte) (sdi : List Bool) (bits : Nat), bits < 8 → sdi.length = 8 * bytes.length + bits →
    (∀ i j, i < bytes.length → j < 8 → sdi[8 * i + j]? = some ((bytes.getD i 0).getLsbD (7 - j))) →
    decodeLevels sdi = decodeFrame bytes bits)
  ∧ (∀ (bytes : List Byte) (i j : Nat), (sdiLevels bytes).length = 8 * bytes.length
    ∧ (i < bytes.length → j < 8 → (sdiLevels bytes)[8 * i + j]? = some ((bytes.getD i 0).getLsbD (7 - j))))
  ∧ ∀ (c : Instr) (bytes : List Byte), c.wellFormed = true → encodeFrame c = some bytes →
    (∀ (later : List Byte) (bits : Nat), bits < 8 → decodeFrame (bytes ++ later) bits = some c)
    ∧ ∀ n bits, n < bytes.length → bits < 8 → 0 < 8 * n + bits →
        decodeFrame (bytes.take n) bits = some (.frameCutShort (bytes.take n) bits)

/-! ### What every step keeps -/

/-- The queue never holds more than 24 entries and no line more than one OPEN entry, its youngest (02 R21, R23); every
byte stays in its line or page, and every memory operation in one page (02 R22; 04 R66; 05 R94). -/
def Obligations.StepKeepsQueueAndBytes : Prop :=
  ∀ s t : State, s.queue.Lawful → s.BytesLawful → step s = .next t → t.queue.Lawful ∧ t.BytesLawful

/-- The discipline of the memory link: WRITE-ENABLE, PAGE-WRITE and READ-DATA only while the memory is QUIET, and at
most one buffer in a program operation, that of the link's holder (05 R97, R100). The model's choice: log 13. -/
def Obligations.StepKeepsLinkDiscipline : Prop :=
  ∀ s t : State, s.link.Lawful → s.OneProgram → step s = .next t → t.link.Lawful ∧ t.OneProgram

/-- At most 8 records, and an overflow only beside a record (09 R173, R180); valid active values, and in APPLYING a
valid shadow set (07 R128, R138); one fetch for each port (03 R51); the parts held in reset (11 R206); the filter's
timer (08 R160); the memory's canonical form. The model's choice: log 2 (the straps, and the sets that go with them, before
they are sampled), log 3 (the blank byte of the canonical form), log 28 (the level of the PFAILn pin, which a reset keeps). -/
def Obligations.StepKeepsBookkeeping : Prop :=
  ∀ s t : State, step s = .next t →
    (s.faults.Lawful → t.faults.Lawful) ∧ (s.ConfigLawful → t.ConfigLawful) ∧ (s.reads.Lawful → t.reads.Lawful)
      ∧ (s.HeldInReset → t.HeldInReset) ∧ (s.FilterLawful → t.FilterLawful)
      ∧ (memWf s.memory.cells = true → memWf t.memory.cells = true)

/-- The serial memory's bytes change only where a status shows that the program in progress has ended, and only those
that it covers, which after a program without a failure hold the bytes written (05 R95, R96). The model's choice: log
3, log 4, log 9. -/
def Obligations.MemoryChangesOnlyAtProgramEnd : Prop :=
  ∀ (c : Instr) (s t : State) (a : Nat), exec c s = .next t →
    memRead t.memory.cells a = memRead s.memory.cells a
    ∨ ∃ (st : Byte) (addr : Nat) (data : List Byte), (c = .readStatusCompletion st ∨ c = .directStatusCompletion st)
        ∧ statusBusy st = false ∧ s.memory.busy = true ∧ s.memory.program = some (addr, data)
        ∧ addr ≤ a ∧ a < addr + data.length
        ∧ (statusWriteFail st = false → memRead t.memory.cells a = data.getD (a - addr) 0)

/-- A PAGE-WRITE for a page is never issued while a fetch of that page is in the fetch list; it is issued only while the
memory is QUIET, and lies in one page (05 R94, R100, R108). -/
def Obligations.PageWriteNeverOnPinnedPage : Prop :=
  ∀ (c : Instr) (s t : State) (addr : Nat) (data : List Byte), s.link.Lawful → s.BytesLawful → exec c s = .next t →
    t.link.wire = some (.pageWrite addr data) → s.link.wire ≠ t.link.wire →
    s.pinned (pageOf addr) = false ∧ s.link.quiet = true ∧ addr % 256 + data.length ≤ 256

end
end

