-- ==== Sys2Proof/Laws/Cells.lean ====
section
/-! SUPPORT. Bytes by offset: a read after a write, and the canonical form that every operation on them keeps. -/
namespace Sys2Proof.Machine

/-! ### Reading -/

theorem cellsGet_put (c : List Host.Cell) (k : Nat) (v : Byte) (a : Nat) :
    cellsGet (cellsPut c k v) a = if a = k then some v else cellsGet c a := by
  induction c with
  | nil => simp [cellsPut, cellsGet, eq_comm]
  | cons x rest ih =>
    obtain ⟨j, w⟩ := x
    simp only [cellsPut]
    split
    · simp only [cellsGet, eq_comm]
    · split
      · rename_i h; subst h
        simp only [cellsGet]
        by_cases h : a = k
        · simp [h]
        · simp [h, Ne.symm h]
      · rename_i h
        simp only [cellsGet, ih]
        by_cases h' : j = a
        · subst h'; simp [Ne.symm h]
        · simp [h']

theorem cellsGet_filter (p : Nat → Bool) (c : List Host.Cell) (a : Nat) :
    cellsGet (c.filter fun x => p x.1) a = if p a then cellsGet c a else none := by
  induction c with
  | nil => simp [cellsGet]
  | cons x rest ih =>
    obtain ⟨j, w⟩ := x
    simp only [List.filter_cons]
    by_cases hj : j = a
    · subst hj; by_cases hp : p j <;> simp [hp, cellsGet, ih]
    · by_cases hp : p j <;> simp [hp, cellsGet, ih, hj]

theorem cellsGet_erase (c : List Host.Cell) (k a : Nat) :
    cellsGet (cellsErase c k) a = if a = k then none else cellsGet c a := by
  unfold cellsErase
  rw [cellsGet_filter fun n => n != k]
  by_cases h : a = k <;> simp [h]

theorem cellsGet_within (c : List Host.Cell) (lo hi a : Nat) :
    cellsGet (cellsWithin c lo hi) a = if lo ≤ a ∧ a ≤ hi then cellsGet c a else none := by
  unfold cellsWithin
  rw [cellsGet_filter fun n => decide (lo ≤ n) && decide (n ≤ hi)]
  simp

theorem cellsGet_outside (c : List Host.Cell) (lo hi a : Nat) :
    cellsGet (cellsOutside c lo hi) a = if lo ≤ a ∧ a ≤ hi then none else cellsGet c a := by
  unfold cellsOutside
  rw [cellsGet_filter fun n => !(decide (lo ≤ n) && decide (n ≤ hi))]
  by_cases h : lo ≤ a ∧ a ≤ hi
  · simp [h]
  · rw [if_neg h, if_pos]
    simp only [Bool.not_eq_true', Bool.and_eq_false_iff, decide_eq_false_iff_not]
    exact Decidable.not_and_iff_or_not.1 h

theorem cellsGet_mem {c : List Host.Cell} {a : Nat} {v : Byte} (h : cellsGet c a = some v) : (a, v) ∈ c := by
  induction c with
  | nil => cases h
  | cons x rest ih =>
    obtain ⟨j, w⟩ := x
    simp only [cellsGet] at h
    split at h
    · rename_i hj; cases h; subst hj; simp
    · exact List.mem_cons_of_mem _ (ih h)

theorem cellsGet_none {c : List Host.Cell} {a : Nat} (h : ∀ x ∈ c, x.1 ≠ a) : cellsGet c a = none := by
  cases hg : cellsGet c a with
  | none => rfl
  | some v => exact absurd rfl (h _ (cellsGet_mem hg))

/-! ### The canonical form -/

theorem cellsWf_iff (c : List Host.Cell) : cellsWf c = true ↔ c.Pairwise fun x y => x.1 < y.1 := by
  induction c with
  | nil => simp [cellsWf]
  | cons x rest ih =>
    cases rest with
    | nil => simp [cellsWf]
    | cons y rest =>
      simp only [cellsWf, Bool.and_eq_true, decide_eq_true_eq, ih, List.pairwise_cons, List.mem_cons, forall_eq_or_imp]
      constructor
      · rintro ⟨h, h1, h2⟩
        exact ⟨⟨h, fun z hz => Nat.lt_trans h (h1 z hz)⟩, h1, h2⟩
      · rintro ⟨⟨h, -⟩, h1, h2⟩
        exact ⟨h, h1, h2⟩

theorem mem_cellsPut {c : List Host.Cell} {k : Nat} {v : Byte} {x : Host.Cell} (h : x ∈ cellsPut c k v) :
    x = (k, v) ∨ x ∈ c := by
  induction c with
  | nil => simpa [cellsPut] using h
  | cons y rest ih =>
    obtain ⟨j, w⟩ := y
    simp only [cellsPut] at h
    split at h
    · simpa using h
    · split at h
      · simp only [List.mem_cons] at h ⊢
        rcases h with h | h
        · exact .inl h
        · exact .inr (.inr h)
      · simp only [List.mem_cons] at h ⊢
        rcases h with h | h
        · exact .inr (.inl h)
        · rcases ih h with h | h
          · exact .inl h
          · exact .inr (.inr h)

theorem cellsWf_put {c : List Host.Cell} (k : Nat) (v : Byte) (h : cellsWf c = true) : cellsWf (cellsPut c k v) = true := by
  rw [cellsWf_iff] at h ⊢
  induction c with
  | nil => simp [cellsPut]
  | cons y rest ih =>
    obtain ⟨j, w⟩ := y
    rw [List.pairwise_cons] at h
    simp only [cellsPut]
    split
    · rename_i hlt
      rw [List.pairwise_cons, List.pairwise_cons]
      refine ⟨fun z hz => ?_, h⟩
      simp only [List.mem_cons] at hz
      rcases hz with rfl | hz
      · exact hlt
      · exact Nat.lt_trans hlt (h.1 z hz)
    · split
      · rename_i he; subst he
        exact List.pairwise_cons.2 h
      · rename_i h1 h2
        rw [List.pairwise_cons]
        refine ⟨fun z hz => ?_, ih h.2⟩
        rcases mem_cellsPut hz with rfl | hz
        · exact Nat.lt_of_le_of_ne (Nat.le_of_not_lt h1) (Ne.symm h2)
        · exact h.1 z hz

theorem cellsWf_filter {c : List Host.Cell} (p : Host.Cell → Bool) (h : cellsWf c = true) : cellsWf (c.filter p) = true := by
  rw [cellsWf_iff] at h ⊢
  exact h.filter p

theorem cellsWf_erase {c : List Host.Cell} (k : Nat) (h : cellsWf c = true) : cellsWf (cellsErase c k) = true :=
  cellsWf_filter _ h

/-- A byte of a laying over: the new byte, and else the old one (02 R28, 04 R71). -/
theorem cellsGet_lay (new c : List Host.Cell) (a : Nat) (h : cellsWf new = true) :
    cellsGet (cellsLay c new) a = (cellsGet new a).or (cellsGet c a) := by
  unfold cellsLay
  rw [cellsWf_iff] at h
  induction new generalizing c with
  | nil => simp [cellsGet]
  | cons x rest ih =>
    obtain ⟨j, w⟩ := x
    rw [List.pairwise_cons] at h
    simp only [List.foldl_cons, ih _ h.2, cellsGet]
    by_cases hj : j = a
    · subst hj
      rw [cellsGet_none fun y hy => Nat.ne_of_gt (h.1 y hy)]
      simp [cellsGet_put]
    · simp [hj, cellsGet_put, Ne.symm hj]

theorem cellsGet_fillFrom (new c d : List Host.Cell) (a : Nat) (h : cellsWf new = true) :
    cellsGet (new.foldl (fun acc x => if (cellsGet c x.1).isNone then cellsPut acc x.1 x.2 else acc) d) a
      = if (cellsGet c a).isNone then (cellsGet new a).or (cellsGet d a) else cellsGet d a := by
  rw [cellsWf_iff] at h
  induction new generalizing d with
  | nil => simp [cellsGet]
  | cons x rest ih =>
    obtain ⟨j, w⟩ := x
    rw [List.pairwise_cons] at h
    rw [List.foldl_cons, ih _ h.2]
    simp only [cellsGet]
    by_cases hj : j = a
    · subst hj
      rw [cellsGet_none fun y hy => Nat.ne_of_gt (h.1 y hy)]
      by_cases hn : (cellsGet c j).isNone <;> simp [hn, cellsGet_put]
    · by_cases hn : (cellsGet c j).isNone <;> simp [hn, hj, cellsGet_put, Ne.symm hj]

/-- A byte of a fill: what was there, and else what the fill brings (04 R75, R76). -/
theorem cellsGet_fill (new c : List Host.Cell) (a : Nat) (h : cellsWf new = true) :
    cellsGet (cellsFill c new) a = (cellsGet c a).or (cellsGet new a) := by
  unfold cellsFill
  rw [cellsGet_fillFrom new c c a h]
  cases hc : cellsGet c a <;> simp

/-! ### Bounds -/

theorem CellsBelow.put {c : List Host.Cell} {n k : Nat} (h : CellsBelow c n) (v : Byte) (hk : k < n) :
    CellsBelow (cellsPut c k v) n :=
  ⟨cellsWf_put k v h.1, fun x hx => by
    rcases mem_cellsPut hx with rfl | hx
    · exact hk
    · exact h.2 x hx⟩

theorem CellsBelow.filter {c : List Host.Cell} {n : Nat} (h : CellsBelow c n) (p : Host.Cell → Bool) :
    CellsBelow (c.filter p) n :=
  ⟨cellsWf_filter p h.1, fun x hx => h.2 x (List.mem_filter.1 hx).1⟩

theorem CellsBelow.nil (n : Nat) : CellsBelow [] n := ⟨rfl, by simp⟩

theorem CellsBelow.lay {c new : List Host.Cell} {n : Nat} (h : CellsBelow c n) (hn : ∀ x ∈ new, x.1 < n) :
    CellsBelow (cellsLay c new) n := by
  unfold cellsLay
  induction new generalizing c with
  | nil => exact h
  | cons x rest ih =>
    exact ih (h.put x.2 (hn x (by simp))) fun y hy => hn y (by simp [hy])

theorem CellsBelow.fill {c new : List Host.Cell} {n : Nat} (h : CellsBelow c n) (hn : ∀ x ∈ new, x.1 < n) :
    CellsBelow (cellsFill c new) n := by
  suffices H : ∀ d, CellsBelow d n →
      CellsBelow (new.foldl (fun acc x => if (cellsGet c x.1).isNone then cellsPut acc x.1 x.2 else acc) d) n from H c h
  induction new with
  | nil => exact fun d hd => hd
  | cons x rest ih =>
    intro d hd
    simp only [List.foldl_cons]
    split
    · exact ih (fun y hy => hn y (by simp [hy])) _ (hd.put x.2 (hn x (by simp)))
    · exact ih (fun y hy => hn y (by simp [hy])) _ hd

theorem mem_cellsAt {start : Nat} {bs : List Byte} {x : Host.Cell} (h : x ∈ cellsAt start bs) :
    start ≤ x.1 ∧ x.1 < start + bs.length := by
  induction bs generalizing start with
  | nil => cases h
  | cons b rest ih =>
    simp only [cellsAt, List.mem_cons] at h
    rcases h with rfl | h
    · simp
    · have := ih h
      simp only [List.length_cons]; omega

theorem cellsWf_at (start : Nat) (bs : List Byte) : cellsWf (cellsAt start bs) = true := by
  rw [cellsWf_iff]
  induction bs generalizing start with
  | nil => exact .nil
  | cons b rest ih => exact List.pairwise_cons.2 ⟨fun x hx => (mem_cellsAt hx).1, ih (start + 1)⟩

theorem cellsGet_at (start : Nat) (bs : List Byte) (a : Nat) :
    cellsGet (cellsAt start bs) a = if start ≤ a then bs[a - start]? else none := by
  induction bs generalizing start with
  | nil => simp [cellsAt, cellsGet]
  | cons b rest ih =>
    simp only [cellsAt, cellsGet, ih]
    by_cases h : start = a
    · subst h; simp
    · rw [if_neg h]
      by_cases h1 : start ≤ a
      · have h2 : start + 1 ≤ a := by omega
        rw [if_pos h1, if_pos h2, show a - start = (a - (start + 1)) + 1 by omega, List.getElem?_cons_succ]
      · have h2 : ¬ start + 1 ≤ a := by omega
        rw [if_neg h1, if_neg h2]

/-! ### The serial memory's content -/

/-- A read after a write: the byte written, and every other byte as it was. -/
theorem memRead_memWrite (c : List Host.Cell) (k : Nat) (v : Byte) (a : Nat) :
    memRead (memWrite c k v) a = if a = k then v else memRead c a := by
  unfold memRead memWrite
  split
  · rename_i h
    rw [cellsGet_erase]
    by_cases ha : a = k <;> simp [ha, h]
  · rw [cellsGet_put]
    by_cases ha : a = k <;> simp [ha]

theorem memRead_memWriteAll (c : List Host.Cell) (start : Nat) (bs : List Byte) (a : Nat) :
    memRead (memWriteAll c start bs) a =
      if start ≤ a ∧ a < start + bs.length then bs.getD (a - start) 0 else memRead c a := by
  induction bs generalizing c start with
  | nil => simp only [memWriteAll, List.length_nil]; rw [if_neg (by omega)]
  | cons b rest ih =>
    simp only [memWriteAll, ih, memRead_memWrite, List.length_cons]
    by_cases h : start = a
    · subst h; rw [if_neg (by omega), if_pos rfl, if_pos (by omega)]; simp
    · by_cases h1 : start + 1 ≤ a ∧ a < start + 1 + rest.length
      · rw [if_pos h1, if_pos (by omega), show a - start = (a - (start + 1)) + 1 by omega]; simp
      · rw [if_neg h1, if_neg (by omega), if_neg (by omega)]

theorem memWf_iff (c : List Host.Cell) : memWf c = true ↔ cellsWf c = true ∧ ∀ x ∈ c, x.2 ≠ Config.blankByte := by
  simp [memWf]

/-- Every write keeps the canonical form. -/
theorem memWf_memWrite {c : List Host.Cell} (k : Nat) (v : Byte) (h : memWf c = true) : memWf (memWrite c k v) = true := by
  rw [memWf_iff] at h ⊢
  unfold memWrite
  split
  · exact ⟨cellsWf_erase k h.1, fun x hx => h.2 x (List.mem_filter.1 hx).1⟩
  · rename_i hv
    refine ⟨cellsWf_put k v h.1, fun x hx => ?_⟩
    rcases mem_cellsPut hx with rfl | hx
    · exact hv
    · exact h.2 x hx

theorem memWf_memWriteAll {c : List Host.Cell} (start : Nat) (bs : List Byte) (h : memWf c = true) :
    memWf (memWriteAll c start bs) = true := by
  induction bs generalizing c start with
  | nil => exact h
  | cons b rest ih => exact ih (start + 1) (memWf_memWrite start b h)

/-- The end of a program keeps the canonical form, whatever it leaves. -/
theorem memWf_endProgram {m : SerialMemory} (failed : Bool) (now : Nat) (h : memWf m.cells = true) :
    memWf (m.endProgram failed now).cells = true := by
  unfold SerialMemory.endProgram
  split
  · exact memWf_memWriteAll _ _ h
  · exact h

theorem memWf_sawStatus {m : SerialMemory} (st : Byte) (now : Nat) (h : memWf m.cells = true) :
    memWf (m.sawStatus st now).cells = true := by
  unfold SerialMemory.sawStatus
  split
  · exact memWf_endProgram _ _ h
  · exact h

theorem SerialMemory.writeEnable_cells (m : SerialMemory) : m.writeEnable.cells = m.cells := by
  unfold SerialMemory.writeEnable; split <;> rfl

theorem SerialMemory.pageWrite_cells (m : SerialMemory) (addr : Nat) (data : List Byte) :
    (m.pageWrite addr data).cells = m.cells := by
  unfold SerialMemory.pageWrite; split <;> rfl

theorem SerialMemory.cut_cells (m : SerialMemory) (wire : Option MemOp) (now : Nat) : (m.cut wire now).cells = m.cells := by
  unfold SerialMemory.cut
  split
  · dsimp only; split
    · rfl
    · exact SerialMemory.pageWrite_cells ..
  · rfl

theorem memWf_reset : memWf State.reset.memory.cells = true := rfl

end Sys2Proof.Machine
end

