-- ==== Sys2Proof/Laws/State.lean ====
section
/-! SUPPORT. One lemma for each field of the state and each update of it, true by unfolding. -/
namespace Sys2Proof.Machine

/-! ### setPorts -/
@[simp] theorem State.setPorts_rstn (s : State) (x : Ports) : (s.setPorts x).rstn = s.rstn := rfl
@[simp] theorem State.setPorts_straps (s : State) (x : Ports) : (s.setPorts x).straps = s.straps := rfl
@[simp] theorem State.setPorts_ports (s : State) (x : Ports) : (s.setPorts x).ports = x := rfl
@[simp] theorem State.setPorts_queue (s : State) (x : Ports) : (s.setPorts x).queue = s.queue := rfl
@[simp] theorem State.setPorts_reads (s : State) (x : Ports) : (s.setPorts x).reads = s.reads := rfl
@[simp] theorem State.setPorts_drain (s : State) (x : Ports) : (s.setPorts x).drain = s.drain := rfl
@[simp] theorem State.setPorts_link (s : State) (x : Ports) : (s.setPorts x).link = s.link := rfl
@[simp] theorem State.setPorts_control (s : State) (x : Ports) : (s.setPorts x).control = s.control := rfl
@[simp] theorem State.setPorts_shadow (s : State) (x : Ports) : (s.setPorts x).shadow = s.shadow := rfl
@[simp] theorem State.setPorts_active (s : State) (x : Ports) : (s.setPorts x).active = s.active := rfl
@[simp] theorem State.setPorts_faults (s : State) (x : Ports) : (s.setPorts x).faults = s.faults := rfl
@[simp] theorem State.setPorts_maint (s : State) (x : Ports) : (s.setPorts x).maint = s.maint := rfl
@[simp] theorem State.setPorts_memory (s : State) (x : Ports) : (s.setPorts x).memory = s.memory := rfl
@[simp] theorem State.setPorts_now (s : State) (x : Ports) : (s.setPorts x).now = s.now := rfl
@[simp] theorem State.setPorts_pending (s : State) (x : Ports) : (s.setPorts x).pending = s.pending := rfl

/-! ### setQueue -/
@[simp] theorem State.setQueue_rstn (s : State) (x : Queue) : (s.setQueue x).rstn = s.rstn := rfl
@[simp] theorem State.setQueue_straps (s : State) (x : Queue) : (s.setQueue x).straps = s.straps := rfl
@[simp] theorem State.setQueue_ports (s : State) (x : Queue) : (s.setQueue x).ports = s.ports := rfl
@[simp] theorem State.setQueue_queue (s : State) (x : Queue) : (s.setQueue x).queue = x := rfl
@[simp] theorem State.setQueue_reads (s : State) (x : Queue) : (s.setQueue x).reads = s.reads := rfl
@[simp] theorem State.setQueue_drain (s : State) (x : Queue) : (s.setQueue x).drain = s.drain := rfl
@[simp] theorem State.setQueue_link (s : State) (x : Queue) : (s.setQueue x).link = s.link := rfl
@[simp] theorem State.setQueue_control (s : State) (x : Queue) : (s.setQueue x).control = s.control := rfl
@[simp] theorem State.setQueue_shadow (s : State) (x : Queue) : (s.setQueue x).shadow = s.shadow := rfl
@[simp] theorem State.setQueue_active (s : State) (x : Queue) : (s.setQueue x).active = s.active := rfl
@[simp] theorem State.setQueue_faults (s : State) (x : Queue) : (s.setQueue x).faults = s.faults := rfl
@[simp] theorem State.setQueue_maint (s : State) (x : Queue) : (s.setQueue x).maint = s.maint := rfl
@[simp] theorem State.setQueue_memory (s : State) (x : Queue) : (s.setQueue x).memory = s.memory := rfl
@[simp] theorem State.setQueue_now (s : State) (x : Queue) : (s.setQueue x).now = s.now := rfl
@[simp] theorem State.setQueue_pending (s : State) (x : Queue) : (s.setQueue x).pending = s.pending := rfl

/-! ### setReads -/
@[simp] theorem State.setReads_rstn (s : State) (x : ReadService) : (s.setReads x).rstn = s.rstn := rfl
@[simp] theorem State.setReads_straps (s : State) (x : ReadService) : (s.setReads x).straps = s.straps := rfl
@[simp] theorem State.setReads_ports (s : State) (x : ReadService) : (s.setReads x).ports = s.ports := rfl
@[simp] theorem State.setReads_queue (s : State) (x : ReadService) : (s.setReads x).queue = s.queue := rfl
@[simp] theorem State.setReads_reads (s : State) (x : ReadService) : (s.setReads x).reads = x := rfl
@[simp] theorem State.setReads_drain (s : State) (x : ReadService) : (s.setReads x).drain = s.drain := rfl
@[simp] theorem State.setReads_link (s : State) (x : ReadService) : (s.setReads x).link = s.link := rfl
@[simp] theorem State.setReads_control (s : State) (x : ReadService) : (s.setReads x).control = s.control := rfl
@[simp] theorem State.setReads_shadow (s : State) (x : ReadService) : (s.setReads x).shadow = s.shadow := rfl
@[simp] theorem State.setReads_active (s : State) (x : ReadService) : (s.setReads x).active = s.active := rfl
@[simp] theorem State.setReads_faults (s : State) (x : ReadService) : (s.setReads x).faults = s.faults := rfl
@[simp] theorem State.setReads_maint (s : State) (x : ReadService) : (s.setReads x).maint = s.maint := rfl
@[simp] theorem State.setReads_memory (s : State) (x : ReadService) : (s.setReads x).memory = s.memory := rfl
@[simp] theorem State.setReads_now (s : State) (x : ReadService) : (s.setReads x).now = s.now := rfl
@[simp] theorem State.setReads_pending (s : State) (x : ReadService) : (s.setReads x).pending = s.pending := rfl

/-! ### setDrain -/
@[simp] theorem State.setDrain_rstn (s : State) (x : Drain) : (s.setDrain x).rstn = s.rstn := rfl
@[simp] theorem State.setDrain_straps (s : State) (x : Drain) : (s.setDrain x).straps = s.straps := rfl
@[simp] theorem State.setDrain_ports (s : State) (x : Drain) : (s.setDrain x).ports = s.ports := rfl
@[simp] theorem State.setDrain_queue (s : State) (x : Drain) : (s.setDrain x).queue = s.queue := rfl
@[simp] theorem State.setDrain_reads (s : State) (x : Drain) : (s.setDrain x).reads = s.reads := rfl
@[simp] theorem State.setDrain_drain (s : State) (x : Drain) : (s.setDrain x).drain = x := rfl
@[simp] theorem State.setDrain_link (s : State) (x : Drain) : (s.setDrain x).link = s.link := rfl
@[simp] theorem State.setDrain_control (s : State) (x : Drain) : (s.setDrain x).control = s.control := rfl
@[simp] theorem State.setDrain_shadow (s : State) (x : Drain) : (s.setDrain x).shadow = s.shadow := rfl
@[simp] theorem State.setDrain_active (s : State) (x : Drain) : (s.setDrain x).active = s.active := rfl
@[simp] theorem State.setDrain_faults (s : State) (x : Drain) : (s.setDrain x).faults = s.faults := rfl
@[simp] theorem State.setDrain_maint (s : State) (x : Drain) : (s.setDrain x).maint = s.maint := rfl
@[simp] theorem State.setDrain_memory (s : State) (x : Drain) : (s.setDrain x).memory = s.memory := rfl
@[simp] theorem State.setDrain_now (s : State) (x : Drain) : (s.setDrain x).now = s.now := rfl
@[simp] theorem State.setDrain_pending (s : State) (x : Drain) : (s.setDrain x).pending = s.pending := rfl

/-! ### setLink -/
@[simp] theorem State.setLink_rstn (s : State) (x : Link) : (s.setLink x).rstn = s.rstn := rfl
@[simp] theorem State.setLink_straps (s : State) (x : Link) : (s.setLink x).straps = s.straps := rfl
@[simp] theorem State.setLink_ports (s : State) (x : Link) : (s.setLink x).ports = s.ports := rfl
@[simp] theorem State.setLink_queue (s : State) (x : Link) : (s.setLink x).queue = s.queue := rfl
@[simp] theorem State.setLink_reads (s : State) (x : Link) : (s.setLink x).reads = s.reads := rfl
@[simp] theorem State.setLink_drain (s : State) (x : Link) : (s.setLink x).drain = s.drain := rfl
@[simp] theorem State.setLink_link (s : State) (x : Link) : (s.setLink x).link = x := rfl
@[simp] theorem State.setLink_control (s : State) (x : Link) : (s.setLink x).control = s.control := rfl
@[simp] theorem State.setLink_shadow (s : State) (x : Link) : (s.setLink x).shadow = s.shadow := rfl
@[simp] theorem State.setLink_active (s : State) (x : Link) : (s.setLink x).active = s.active := rfl
@[simp] theorem State.setLink_faults (s : State) (x : Link) : (s.setLink x).faults = s.faults := rfl
@[simp] theorem State.setLink_maint (s : State) (x : Link) : (s.setLink x).maint = s.maint := rfl
@[simp] theorem State.setLink_memory (s : State) (x : Link) : (s.setLink x).memory = s.memory := rfl
@[simp] theorem State.setLink_now (s : State) (x : Link) : (s.setLink x).now = s.now := rfl
@[simp] theorem State.setLink_pending (s : State) (x : Link) : (s.setLink x).pending = s.pending := rfl

/-! ### setControl -/
@[simp] theorem State.setControl_rstn (s : State) (x : Control) : (s.setControl x).rstn = s.rstn := rfl
@[simp] theorem State.setControl_straps (s : State) (x : Control) : (s.setControl x).straps = s.straps := rfl
@[simp] theorem State.setControl_ports (s : State) (x : Control) : (s.setControl x).ports = s.ports := rfl
@[simp] theorem State.setControl_queue (s : State) (x : Control) : (s.setControl x).queue = s.queue := rfl
@[simp] theorem State.setControl_reads (s : State) (x : Control) : (s.setControl x).reads = s.reads := rfl
@[simp] theorem State.setControl_drain (s : State) (x : Control) : (s.setControl x).drain = s.drain := rfl
@[simp] theorem State.setControl_link (s : State) (x : Control) : (s.setControl x).link = s.link := rfl
@[simp] theorem State.setControl_control (s : State) (x : Control) : (s.setControl x).control = x := rfl
@[simp] theorem State.setControl_shadow (s : State) (x : Control) : (s.setControl x).shadow = s.shadow := rfl
@[simp] theorem State.setControl_active (s : State) (x : Control) : (s.setControl x).active = s.active := rfl
@[simp] theorem State.setControl_faults (s : State) (x : Control) : (s.setControl x).faults = s.faults := rfl
@[simp] theorem State.setControl_maint (s : State) (x : Control) : (s.setControl x).maint = s.maint := rfl
@[simp] theorem State.setControl_memory (s : State) (x : Control) : (s.setControl x).memory = s.memory := rfl
@[simp] theorem State.setControl_now (s : State) (x : Control) : (s.setControl x).now = s.now := rfl
@[simp] theorem State.setControl_pending (s : State) (x : Control) : (s.setControl x).pending = s.pending := rfl

/-! ### setShadow -/
@[simp] theorem State.setShadow_rstn (s : State) (x : ConfigSet) : (s.setShadow x).rstn = s.rstn := rfl
@[simp] theorem State.setShadow_straps (s : State) (x : ConfigSet) : (s.setShadow x).straps = s.straps := rfl
@[simp] theorem State.setShadow_ports (s : State) (x : ConfigSet) : (s.setShadow x).ports = s.ports := rfl
@[simp] theorem State.setShadow_queue (s : State) (x : ConfigSet) : (s.setShadow x).queue = s.queue := rfl
@[simp] theorem State.setShadow_reads (s : State) (x : ConfigSet) : (s.setShadow x).reads = s.reads := rfl
@[simp] theorem State.setShadow_drain (s : State) (x : ConfigSet) : (s.setShadow x).drain = s.drain := rfl
@[simp] theorem State.setShadow_link (s : State) (x : ConfigSet) : (s.setShadow x).link = s.link := rfl
@[simp] theorem State.setShadow_control (s : State) (x : ConfigSet) : (s.setShadow x).control = s.control := rfl
@[simp] theorem State.setShadow_shadow (s : State) (x : ConfigSet) : (s.setShadow x).shadow = x := rfl
@[simp] theorem State.setShadow_active (s : State) (x : ConfigSet) : (s.setShadow x).active = s.active := rfl
@[simp] theorem State.setShadow_faults (s : State) (x : ConfigSet) : (s.setShadow x).faults = s.faults := rfl
@[simp] theorem State.setShadow_maint (s : State) (x : ConfigSet) : (s.setShadow x).maint = s.maint := rfl
@[simp] theorem State.setShadow_memory (s : State) (x : ConfigSet) : (s.setShadow x).memory = s.memory := rfl
@[simp] theorem State.setShadow_now (s : State) (x : ConfigSet) : (s.setShadow x).now = s.now := rfl
@[simp] theorem State.setShadow_pending (s : State) (x : ConfigSet) : (s.setShadow x).pending = s.pending := rfl

/-! ### setActive -/
@[simp] theorem State.setActive_rstn (s : State) (x : ConfigSet) : (s.setActive x).rstn = s.rstn := rfl
@[simp] theorem State.setActive_straps (s : State) (x : ConfigSet) : (s.setActive x).straps = s.straps := rfl
@[simp] theorem State.setActive_ports (s : State) (x : ConfigSet) : (s.setActive x).ports = s.ports := rfl
@[simp] theorem State.setActive_queue (s : State) (x : ConfigSet) : (s.setActive x).queue = s.queue := rfl
@[simp] theorem State.setActive_reads (s : State) (x : ConfigSet) : (s.setActive x).reads = s.reads := rfl
@[simp] theorem State.setActive_drain (s : State) (x : ConfigSet) : (s.setActive x).drain = s.drain := rfl
@[simp] theorem State.setActive_link (s : State) (x : ConfigSet) : (s.setActive x).link = s.link := rfl
@[simp] theorem State.setActive_control (s : State) (x : ConfigSet) : (s.setActive x).control = s.control := rfl
@[simp] theorem State.setActive_shadow (s : State) (x : ConfigSet) : (s.setActive x).shadow = s.shadow := rfl
@[simp] theorem State.setActive_active (s : State) (x : ConfigSet) : (s.setActive x).active = x := rfl
@[simp] theorem State.setActive_faults (s : State) (x : ConfigSet) : (s.setActive x).faults = s.faults := rfl
@[simp] theorem State.setActive_maint (s : State) (x : ConfigSet) : (s.setActive x).maint = s.maint := rfl
@[simp] theorem State.setActive_memory (s : State) (x : ConfigSet) : (s.setActive x).memory = s.memory := rfl
@[simp] theorem State.setActive_now (s : State) (x : ConfigSet) : (s.setActive x).now = s.now := rfl
@[simp] theorem State.setActive_pending (s : State) (x : ConfigSet) : (s.setActive x).pending = s.pending := rfl

/-! ### setFaults -/
@[simp] theorem State.setFaults_rstn (s : State) (x : FaultUnit) : (s.setFaults x).rstn = s.rstn := rfl
@[simp] theorem State.setFaults_straps (s : State) (x : FaultUnit) : (s.setFaults x).straps = s.straps := rfl
@[simp] theorem State.setFaults_ports (s : State) (x : FaultUnit) : (s.setFaults x).ports = s.ports := rfl
@[simp] theorem State.setFaults_queue (s : State) (x : FaultUnit) : (s.setFaults x).queue = s.queue := rfl
@[simp] theorem State.setFaults_reads (s : State) (x : FaultUnit) : (s.setFaults x).reads = s.reads := rfl
@[simp] theorem State.setFaults_drain (s : State) (x : FaultUnit) : (s.setFaults x).drain = s.drain := rfl
@[simp] theorem State.setFaults_link (s : State) (x : FaultUnit) : (s.setFaults x).link = s.link := rfl
@[simp] theorem State.setFaults_control (s : State) (x : FaultUnit) : (s.setFaults x).control = s.control := rfl
@[simp] theorem State.setFaults_shadow (s : State) (x : FaultUnit) : (s.setFaults x).shadow = s.shadow := rfl
@[simp] theorem State.setFaults_active (s : State) (x : FaultUnit) : (s.setFaults x).active = s.active := rfl
@[simp] theorem State.setFaults_faults (s : State) (x : FaultUnit) : (s.setFaults x).faults = x := rfl
@[simp] theorem State.setFaults_maint (s : State) (x : FaultUnit) : (s.setFaults x).maint = s.maint := rfl
@[simp] theorem State.setFaults_memory (s : State) (x : FaultUnit) : (s.setFaults x).memory = s.memory := rfl
@[simp] theorem State.setFaults_now (s : State) (x : FaultUnit) : (s.setFaults x).now = s.now := rfl
@[simp] theorem State.setFaults_pending (s : State) (x : FaultUnit) : (s.setFaults x).pending = s.pending := rfl

/-! ### setMaint -/
@[simp] theorem State.setMaint_rstn (s : State) (x : Maint) : (s.setMaint x).rstn = s.rstn := rfl
@[simp] theorem State.setMaint_straps (s : State) (x : Maint) : (s.setMaint x).straps = s.straps := rfl
@[simp] theorem State.setMaint_ports (s : State) (x : Maint) : (s.setMaint x).ports = s.ports := rfl
@[simp] theorem State.setMaint_queue (s : State) (x : Maint) : (s.setMaint x).queue = s.queue := rfl
@[simp] theorem State.setMaint_reads (s : State) (x : Maint) : (s.setMaint x).reads = s.reads := rfl
@[simp] theorem State.setMaint_drain (s : State) (x : Maint) : (s.setMaint x).drain = s.drain := rfl
@[simp] theorem State.setMaint_link (s : State) (x : Maint) : (s.setMaint x).link = s.link := rfl
@[simp] theorem State.setMaint_control (s : State) (x : Maint) : (s.setMaint x).control = s.control := rfl
@[simp] theorem State.setMaint_shadow (s : State) (x : Maint) : (s.setMaint x).shadow = s.shadow := rfl
@[simp] theorem State.setMaint_active (s : State) (x : Maint) : (s.setMaint x).active = s.active := rfl
@[simp] theorem State.setMaint_faults (s : State) (x : Maint) : (s.setMaint x).faults = s.faults := rfl
@[simp] theorem State.setMaint_maint (s : State) (x : Maint) : (s.setMaint x).maint = x := rfl
@[simp] theorem State.setMaint_memory (s : State) (x : Maint) : (s.setMaint x).memory = s.memory := rfl
@[simp] theorem State.setMaint_now (s : State) (x : Maint) : (s.setMaint x).now = s.now := rfl
@[simp] theorem State.setMaint_pending (s : State) (x : Maint) : (s.setMaint x).pending = s.pending := rfl

/-! ### setMemory -/
@[simp] theorem State.setMemory_rstn (s : State) (x : SerialMemory) : (s.setMemory x).rstn = s.rstn := rfl
@[simp] theorem State.setMemory_straps (s : State) (x : SerialMemory) : (s.setMemory x).straps = s.straps := rfl
@[simp] theorem State.setMemory_ports (s : State) (x : SerialMemory) : (s.setMemory x).ports = s.ports := rfl
@[simp] theorem State.setMemory_queue (s : State) (x : SerialMemory) : (s.setMemory x).queue = s.queue := rfl
@[simp] theorem State.setMemory_reads (s : State) (x : SerialMemory) : (s.setMemory x).reads = s.reads := rfl
@[simp] theorem State.setMemory_drain (s : State) (x : SerialMemory) : (s.setMemory x).drain = s.drain := rfl
@[simp] theorem State.setMemory_link (s : State) (x : SerialMemory) : (s.setMemory x).link = s.link := rfl
@[simp] theorem State.setMemory_control (s : State) (x : SerialMemory) : (s.setMemory x).control = s.control := rfl
@[simp] theorem State.setMemory_shadow (s : State) (x : SerialMemory) : (s.setMemory x).shadow = s.shadow := rfl
@[simp] theorem State.setMemory_active (s : State) (x : SerialMemory) : (s.setMemory x).active = s.active := rfl
@[simp] theorem State.setMemory_faults (s : State) (x : SerialMemory) : (s.setMemory x).faults = s.faults := rfl
@[simp] theorem State.setMemory_maint (s : State) (x : SerialMemory) : (s.setMemory x).maint = s.maint := rfl
@[simp] theorem State.setMemory_memory (s : State) (x : SerialMemory) : (s.setMemory x).memory = x := rfl
@[simp] theorem State.setMemory_now (s : State) (x : SerialMemory) : (s.setMemory x).now = s.now := rfl
@[simp] theorem State.setMemory_pending (s : State) (x : SerialMemory) : (s.setMemory x).pending = s.pending := rfl

/-! ### setPending -/
@[simp] theorem State.setPending_rstn (s : State) (x : List Instr) : (s.setPending x).rstn = s.rstn := rfl
@[simp] theorem State.setPending_straps (s : State) (x : List Instr) : (s.setPending x).straps = s.straps := rfl
@[simp] theorem State.setPending_ports (s : State) (x : List Instr) : (s.setPending x).ports = s.ports := rfl
@[simp] theorem State.setPending_queue (s : State) (x : List Instr) : (s.setPending x).queue = s.queue := rfl
@[simp] theorem State.setPending_reads (s : State) (x : List Instr) : (s.setPending x).reads = s.reads := rfl
@[simp] theorem State.setPending_drain (s : State) (x : List Instr) : (s.setPending x).drain = s.drain := rfl
@[simp] theorem State.setPending_link (s : State) (x : List Instr) : (s.setPending x).link = s.link := rfl
@[simp] theorem State.setPending_control (s : State) (x : List Instr) : (s.setPending x).control = s.control := rfl
@[simp] theorem State.setPending_shadow (s : State) (x : List Instr) : (s.setPending x).shadow = s.shadow := rfl
@[simp] theorem State.setPending_active (s : State) (x : List Instr) : (s.setPending x).active = s.active := rfl
@[simp] theorem State.setPending_faults (s : State) (x : List Instr) : (s.setPending x).faults = s.faults := rfl
@[simp] theorem State.setPending_maint (s : State) (x : List Instr) : (s.setPending x).maint = s.maint := rfl
@[simp] theorem State.setPending_memory (s : State) (x : List Instr) : (s.setPending x).memory = s.memory := rfl
@[simp] theorem State.setPending_now (s : State) (x : List Instr) : (s.setPending x).now = s.now := rfl
@[simp] theorem State.setPending_pending (s : State) (x : List Instr) : (s.setPending x).pending = x := rfl

/-! ### tick -/
@[simp] theorem State.tick_rstn (s : State) : s.tick.rstn = s.rstn := rfl
@[simp] theorem State.tick_straps (s : State) : s.tick.straps = s.straps := rfl
@[simp] theorem State.tick_ports (s : State) : s.tick.ports = s.ports := rfl
@[simp] theorem State.tick_queue (s : State) : s.tick.queue = s.queue := rfl
@[simp] theorem State.tick_reads (s : State) : s.tick.reads = s.reads := rfl
@[simp] theorem State.tick_drain (s : State) : s.tick.drain = s.drain := rfl
@[simp] theorem State.tick_link (s : State) : s.tick.link = s.link := rfl
@[simp] theorem State.tick_control (s : State) : s.tick.control = s.control := rfl
@[simp] theorem State.tick_shadow (s : State) : s.tick.shadow = s.shadow := rfl
@[simp] theorem State.tick_active (s : State) : s.tick.active = s.active := rfl
@[simp] theorem State.tick_faults (s : State) : s.tick.faults = s.faults := rfl
@[simp] theorem State.tick_maint (s : State) : s.tick.maint = s.maint := rfl
@[simp] theorem State.tick_memory (s : State) : s.tick.memory = s.memory := rfl
@[simp] theorem State.tick_now (s : State) : s.tick.now = s.now + 1 := rfl
@[simp] theorem State.tick_pending (s : State) : s.tick.pending = s.pending := rfl

/-! ### Ports and buffers -/

@[simp] theorem State.port_A (s : State) : s.port .A = s.ports.a := rfl
@[simp] theorem State.port_B (s : State) : s.port .B = s.ports.b := rfl
@[simp] theorem State.buf_pb0 (s : State) : s.buf .pb0 = s.drain.pb0 := rfl
@[simp] theorem State.buf_pb1 (s : State) : s.buf .pb1 = s.drain.pb1 := rfl
@[simp] theorem Buf.other_pb0 : Buf.pb0.other = .pb1 := rfl
@[simp] theorem Buf.other_pb1 : Buf.pb1.other = .pb0 := rfl
@[simp] theorem Buf.other_other (b : Buf) : b.other.other = b := by cases b <;> rfl
@[simp] theorem Buf.other_ne (b : Buf) : b.other ≠ b := by cases b <;> decide
@[simp] theorem Buf.ne_other (b : Buf) : b ≠ b.other := by cases b <;> decide

/-- Writing a port and reading it. -/
@[simp] theorem State.setPort_port_same (s : State) (p : Port) (r : PortRec) : (s.setPort p r).port p = r := by
  cases p <;> rfl

/-- Writing a port leaves the other as it is. -/
theorem State.setPort_port_ne (s : State) {p q : Port} (r : PortRec) (h : q ≠ p) : (s.setPort p r).port q = s.port q := by
  cases p <;> cases q <;> first | exact absurd rfl h | rfl

/-- The later of two writes to a port stands. -/
@[simp] theorem State.setPort_setPort (s : State) (p : Port) (r r' : PortRec) : (s.setPort p r).setPort p r' = s.setPort p r' := by
  cases p <;> rfl

/-- Writing a port with what it holds changes nothing. -/
@[simp] theorem State.setPort_self (s : State) (p : Port) : s.setPort p (s.port p) = s := by cases p <;> rfl

/-! ### The later of two writes to a block stands, and a block written with what it holds changes nothing -/

@[simp] theorem State.setPorts_setPorts (s : State) (x y : Ports) : (s.setPorts x).setPorts y = s.setPorts y := rfl
@[simp] theorem State.setPorts_self (s : State) : s.setPorts s.ports = s := rfl
@[simp] theorem State.setQueue_setQueue (s : State) (x y : Queue) : (s.setQueue x).setQueue y = s.setQueue y := rfl
@[simp] theorem State.setQueue_self (s : State) : s.setQueue s.queue = s := rfl
@[simp] theorem State.setReads_setReads (s : State) (x y : ReadService) : (s.setReads x).setReads y = s.setReads y := rfl
@[simp] theorem State.setReads_self (s : State) : s.setReads s.reads = s := rfl
@[simp] theorem State.setDrain_setDrain (s : State) (x y : Drain) : (s.setDrain x).setDrain y = s.setDrain y := rfl
@[simp] theorem State.setDrain_self (s : State) : s.setDrain s.drain = s := rfl
@[simp] theorem State.setLink_setLink (s : State) (x y : Link) : (s.setLink x).setLink y = s.setLink y := rfl
@[simp] theorem State.setLink_self (s : State) : s.setLink s.link = s := rfl
@[simp] theorem State.setControl_setControl (s : State) (x y : Control) : (s.setControl x).setControl y = s.setControl y := rfl
@[simp] theorem State.setControl_self (s : State) : s.setControl s.control = s := rfl
@[simp] theorem State.setShadow_setShadow (s : State) (x y : ConfigSet) : (s.setShadow x).setShadow y = s.setShadow y := rfl
@[simp] theorem State.setShadow_self (s : State) : s.setShadow s.shadow = s := rfl
@[simp] theorem State.setActive_setActive (s : State) (x y : ConfigSet) : (s.setActive x).setActive y = s.setActive y := rfl
@[simp] theorem State.setActive_self (s : State) : s.setActive s.active = s := rfl
@[simp] theorem State.setFaults_setFaults (s : State) (x y : FaultUnit) : (s.setFaults x).setFaults y = s.setFaults y := rfl
@[simp] theorem State.setFaults_self (s : State) : s.setFaults s.faults = s := rfl
@[simp] theorem State.setMaint_setMaint (s : State) (x y : Maint) : (s.setMaint x).setMaint y = s.setMaint y := rfl
@[simp] theorem State.setMaint_self (s : State) : s.setMaint s.maint = s := rfl
@[simp] theorem State.setMemory_setMemory (s : State) (x y : SerialMemory) : (s.setMemory x).setMemory y = s.setMemory y := rfl
@[simp] theorem State.setMemory_self (s : State) : s.setMemory s.memory = s := rfl
@[simp] theorem State.setPending_setPending (s : State) (x y : List Instr) : (s.setPending x).setPending y = s.setPending y := rfl
@[simp] theorem State.setPending_self (s : State) : s.setPending s.pending = s := rfl

/-- A port write and a write to another block do not meet. -/
theorem State.setPort_setQueue (s : State) (p : Port) (r : PortRec) (q : Queue) :
    (s.setPort p r).setQueue q = (s.setQueue q).setPort p r := by cases p <;> rfl
theorem State.setPort_setReads (s : State) (p : Port) (r : PortRec) (x : ReadService) :
    (s.setPort p r).setReads x = (s.setReads x).setPort p r := by cases p <;> rfl
theorem State.setPort_setFaults (s : State) (p : Port) (r : PortRec) (x : FaultUnit) :
    (s.setPort p r).setFaults x = (s.setFaults x).setPort p r := by cases p <;> rfl

/-- Writing a buffer and reading it. -/
@[simp] theorem State.setBuf_buf_same (s : State) (b : Buf) (x : PageBuffer) : (s.setBuf b x).buf b = x := by
  cases b <;> rfl

/-- Writing a buffer leaves the other as it is. -/
@[simp] theorem State.setBuf_buf_other (s : State) (b : Buf) (x : PageBuffer) : (s.setBuf b x).buf b.other = s.buf b.other := by
  cases b <;> rfl

theorem State.setBuf_buf_ne (s : State) {b c : Buf} (x : PageBuffer) (h : c ≠ b) : (s.setBuf b x).buf c = s.buf c := by
  cases b <;> cases c <;> first | exact absurd rfl h | rfl

/-- Writing a buffer leaves the pointer, the partner and the charge mark as they are. -/
@[simp] theorem State.setBuf_drain_rest (s : State) (b : Buf) (x : PageBuffer) :
    (s.setBuf b x).drain.next = s.drain.next ∧ (s.setBuf b x).drain.partner = s.drain.partner
      ∧ (s.setBuf b x).drain.chargeable = s.drain.chargeable := by
  cases b <;> exact ⟨rfl, rfl, rfl⟩

end Sys2Proof.Machine
end

