-- ==== Sys2Proof/Laws/Frames.lean ====
section
/-! SUPPORT. One lemma for each shared operation: the blocks of the state that it leaves as they are. -/
namespace Sys2Proof.Machine

/-! ### Ops -/

@[simp] theorem State.setPort_frame (s : State) (p : Port) (r : PortRec) :
    (s.setPort p r).rstn = s.rstn ∧ (s.setPort p r).straps = s.straps ∧ (s.setPort p r).queue = s.queue
      ∧ (s.setPort p r).reads = s.reads ∧ (s.setPort p r).drain = s.drain ∧ (s.setPort p r).link = s.link
      ∧ (s.setPort p r).control = s.control ∧ (s.setPort p r).shadow = s.shadow ∧ (s.setPort p r).active = s.active
      ∧ (s.setPort p r).faults = s.faults ∧ (s.setPort p r).maint = s.maint ∧ (s.setPort p r).memory = s.memory
      ∧ (s.setPort p r).now = s.now ∧ (s.setPort p r).pending = s.pending := by
  cases p <;> simp [State.setPort]

@[simp] theorem State.setBuf_frame (s : State) (b : Buf) (x : PageBuffer) :
    (s.setBuf b x).rstn = s.rstn ∧ (s.setBuf b x).straps = s.straps ∧ (s.setBuf b x).ports = s.ports
      ∧ (s.setBuf b x).queue = s.queue ∧ (s.setBuf b x).reads = s.reads ∧ (s.setBuf b x).link = s.link
      ∧ (s.setBuf b x).control = s.control ∧ (s.setBuf b x).shadow = s.shadow ∧ (s.setBuf b x).active = s.active
      ∧ (s.setBuf b x).faults = s.faults ∧ (s.setBuf b x).maint = s.maint ∧ (s.setBuf b x).memory = s.memory
      ∧ (s.setBuf b x).now = s.now ∧ (s.setBuf b x).pending = s.pending := by
  cases b <;> simp [State.setBuf]

@[simp] theorem State.completeNormal_frame (s : State) (p : Port) (data : Option (BitVec 16)) :
    (s.completeNormal p data).rstn = s.rstn ∧ (s.completeNormal p data).straps = s.straps
      ∧ (s.completeNormal p data).queue = s.queue ∧ (s.completeNormal p data).reads = s.reads
      ∧ (s.completeNormal p data).drain = s.drain ∧ (s.completeNormal p data).link = s.link
      ∧ (s.completeNormal p data).control = s.control ∧ (s.completeNormal p data).shadow = s.shadow
      ∧ (s.completeNormal p data).active = s.active ∧ (s.completeNormal p data).faults = s.faults
      ∧ (s.completeNormal p data).maint = s.maint ∧ (s.completeNormal p data).memory = s.memory
      ∧ (s.completeNormal p data).now = s.now ∧ (s.completeNormal p data).pending = s.pending := by
  unfold State.completeNormal; simp

@[simp] theorem State.completeError_frame (s : State) (p : Port) :
    (s.completeError p).rstn = s.rstn ∧ (s.completeError p).straps = s.straps ∧ (s.completeError p).queue = s.queue
      ∧ (s.completeError p).reads = s.reads ∧ (s.completeError p).drain = s.drain
      ∧ (s.completeError p).link = s.link ∧ (s.completeError p).control = s.control
      ∧ (s.completeError p).shadow = s.shadow ∧ (s.completeError p).active = s.active
      ∧ (s.completeError p).faults = s.faults ∧ (s.completeError p).maint = s.maint
      ∧ (s.completeError p).memory = s.memory ∧ (s.completeError p).now = s.now
      ∧ (s.completeError p).pending = s.pending := by
  unfold State.completeError; (repeat' split) <;> simp

@[simp] theorem State.addFault_frame (s : State) (r : FaultRecord) :
    (s.addFault r).rstn = s.rstn ∧ (s.addFault r).straps = s.straps ∧ (s.addFault r).ports = s.ports
      ∧ (s.addFault r).queue = s.queue ∧ (s.addFault r).reads = s.reads ∧ (s.addFault r).drain = s.drain
      ∧ (s.addFault r).link = s.link ∧ (s.addFault r).control = s.control ∧ (s.addFault r).shadow = s.shadow
      ∧ (s.addFault r).active = s.active ∧ (s.addFault r).maint = s.maint ∧ (s.addFault r).memory = s.memory
      ∧ (s.addFault r).now = s.now ∧ (s.addFault r).pending = s.pending := by
  unfold State.addFault; simp

@[simp] theorem State.setCounters_frame (s : State) (c : Counters) :
    (s.setCounters c).rstn = s.rstn ∧ (s.setCounters c).straps = s.straps ∧ (s.setCounters c).ports = s.ports
      ∧ (s.setCounters c).queue = s.queue ∧ (s.setCounters c).reads = s.reads ∧ (s.setCounters c).drain = s.drain
      ∧ (s.setCounters c).link = s.link ∧ (s.setCounters c).control = s.control
      ∧ (s.setCounters c).shadow = s.shadow ∧ (s.setCounters c).active = s.active
      ∧ (s.setCounters c).maint = s.maint ∧ (s.setCounters c).memory = s.memory ∧ (s.setCounters c).now = s.now
      ∧ (s.setCounters c).pending = s.pending := by
  unfold State.setCounters; dsimp only; simp

@[simp] theorem State.countWriteAccepted_frame (s : State) :
    s.countWriteAccepted.rstn = s.rstn ∧ s.countWriteAccepted.straps = s.straps
      ∧ s.countWriteAccepted.ports = s.ports ∧ s.countWriteAccepted.queue = s.queue
      ∧ s.countWriteAccepted.reads = s.reads ∧ s.countWriteAccepted.drain = s.drain
      ∧ s.countWriteAccepted.link = s.link ∧ s.countWriteAccepted.control = s.control
      ∧ s.countWriteAccepted.shadow = s.shadow ∧ s.countWriteAccepted.active = s.active
      ∧ s.countWriteAccepted.maint = s.maint ∧ s.countWriteAccepted.memory = s.memory
      ∧ s.countWriteAccepted.now = s.now ∧ s.countWriteAccepted.pending = s.pending := by
  unfold State.countWriteAccepted; dsimp only; simp

@[simp] theorem State.countMerge_frame (s : State) :
    s.countMerge.rstn = s.rstn ∧ s.countMerge.straps = s.straps ∧ s.countMerge.ports = s.ports
      ∧ s.countMerge.queue = s.queue ∧ s.countMerge.reads = s.reads ∧ s.countMerge.drain = s.drain
      ∧ s.countMerge.link = s.link ∧ s.countMerge.control = s.control ∧ s.countMerge.shadow = s.shadow
      ∧ s.countMerge.active = s.active ∧ s.countMerge.maint = s.maint ∧ s.countMerge.memory = s.memory
      ∧ s.countMerge.now = s.now ∧ s.countMerge.pending = s.pending := by
  unfold State.countMerge; dsimp only; simp

@[simp] theorem State.countPageWrite_frame (s : State) :
    s.countPageWrite.rstn = s.rstn ∧ s.countPageWrite.straps = s.straps ∧ s.countPageWrite.ports = s.ports
      ∧ s.countPageWrite.queue = s.queue ∧ s.countPageWrite.reads = s.reads ∧ s.countPageWrite.drain = s.drain
      ∧ s.countPageWrite.link = s.link ∧ s.countPageWrite.control = s.control ∧ s.countPageWrite.shadow = s.shadow
      ∧ s.countPageWrite.active = s.active ∧ s.countPageWrite.maint = s.maint ∧ s.countPageWrite.memory = s.memory
      ∧ s.countPageWrite.now = s.now ∧ s.countPageWrite.pending = s.pending := by
  unfold State.countPageWrite; dsimp only; simp

@[simp] theorem State.countRetry_frame (s : State) :
    s.countRetry.rstn = s.rstn ∧ s.countRetry.straps = s.straps ∧ s.countRetry.ports = s.ports
      ∧ s.countRetry.queue = s.queue ∧ s.countRetry.reads = s.reads ∧ s.countRetry.drain = s.drain
      ∧ s.countRetry.link = s.link ∧ s.countRetry.control = s.control ∧ s.countRetry.shadow = s.shadow
      ∧ s.countRetry.active = s.active ∧ s.countRetry.maint = s.maint ∧ s.countRetry.memory = s.memory
      ∧ s.countRetry.now = s.now ∧ s.countRetry.pending = s.pending := by
  unfold State.countRetry; dsimp only; simp

@[simp] theorem State.countStall_frame (s : State) :
    s.countStall.rstn = s.rstn ∧ s.countStall.straps = s.straps ∧ s.countStall.ports = s.ports
      ∧ s.countStall.queue = s.queue ∧ s.countStall.reads = s.reads ∧ s.countStall.drain = s.drain
      ∧ s.countStall.link = s.link ∧ s.countStall.control = s.control ∧ s.countStall.shadow = s.shadow
      ∧ s.countStall.active = s.active ∧ s.countStall.maint = s.maint ∧ s.countStall.memory = s.memory
      ∧ s.countStall.now = s.now ∧ s.countStall.pending = s.pending := by
  unfold State.countStall; dsimp only; simp

@[simp] theorem State.countPfRefused_frame (s : State) :
    s.countPfRefused.rstn = s.rstn ∧ s.countPfRefused.straps = s.straps ∧ s.countPfRefused.ports = s.ports
      ∧ s.countPfRefused.queue = s.queue ∧ s.countPfRefused.reads = s.reads ∧ s.countPfRefused.drain = s.drain
      ∧ s.countPfRefused.link = s.link ∧ s.countPfRefused.control = s.control ∧ s.countPfRefused.shadow = s.shadow
      ∧ s.countPfRefused.active = s.active ∧ s.countPfRefused.maint = s.maint ∧ s.countPfRefused.memory = s.memory
      ∧ s.countPfRefused.now = s.now ∧ s.countPfRefused.pending = s.pending := by
  unfold State.countPfRefused; dsimp only; simp

@[simp] theorem State.completeLong_frame (s : State) (code : Completion) (data : List Byte) :
    (s.completeLong code data).rstn = s.rstn ∧ (s.completeLong code data).straps = s.straps
      ∧ (s.completeLong code data).ports = s.ports ∧ (s.completeLong code data).queue = s.queue
      ∧ (s.completeLong code data).reads = s.reads ∧ (s.completeLong code data).drain = s.drain
      ∧ (s.completeLong code data).link = s.link ∧ (s.completeLong code data).control = s.control
      ∧ (s.completeLong code data).shadow = s.shadow ∧ (s.completeLong code data).active = s.active
      ∧ (s.completeLong code data).faults = s.faults ∧ (s.completeLong code data).memory = s.memory
      ∧ (s.completeLong code data).now = s.now ∧ (s.completeLong code data).pending = s.pending := by
  unfold State.completeLong; simp

@[simp] theorem State.respond_frame (s : State) (code : Byte) (data : List Byte) :
    (s.respond code data).rstn = s.rstn ∧ (s.respond code data).straps = s.straps
      ∧ (s.respond code data).ports = s.ports ∧ (s.respond code data).queue = s.queue
      ∧ (s.respond code data).reads = s.reads ∧ (s.respond code data).drain = s.drain
      ∧ (s.respond code data).link = s.link ∧ (s.respond code data).control = s.control
      ∧ (s.respond code data).shadow = s.shadow ∧ (s.respond code data).active = s.active
      ∧ (s.respond code data).faults = s.faults ∧ (s.respond code data).memory = s.memory
      ∧ (s.respond code data).now = s.now ∧ (s.respond code data).pending = s.pending := by
  unfold State.respond; dsimp only; simp

/-! ### Reads and ports -/

@[simp] theorem State.acceptRead_frame (s : State) (p : Port) :
    (s.acceptRead p).rstn = s.rstn ∧ (s.acceptRead p).straps = s.straps ∧ (s.acceptRead p).queue = s.queue
      ∧ (s.acceptRead p).drain = s.drain ∧ (s.acceptRead p).link = s.link ∧ (s.acceptRead p).control = s.control
      ∧ (s.acceptRead p).shadow = s.shadow ∧ (s.acceptRead p).active = s.active ∧ (s.acceptRead p).faults = s.faults
      ∧ (s.acceptRead p).maint = s.maint ∧ (s.acceptRead p).memory = s.memory ∧ (s.acceptRead p).now = s.now
      ∧ (s.acceptRead p).pending = s.pending := by
  unfold State.acceptRead; (try dsimp only); (repeat' split) <;> simp

@[simp] theorem State.enterHeldBack_frame (s : State) :
    s.enterHeldBack.rstn = s.rstn ∧ s.enterHeldBack.straps = s.straps ∧ s.enterHeldBack.ports = s.ports
      ∧ s.enterHeldBack.queue = s.queue ∧ s.enterHeldBack.drain = s.drain ∧ s.enterHeldBack.link = s.link
      ∧ s.enterHeldBack.control = s.control ∧ s.enterHeldBack.shadow = s.shadow ∧ s.enterHeldBack.active = s.active
      ∧ s.enterHeldBack.faults = s.faults ∧ s.enterHeldBack.maint = s.maint ∧ s.enterHeldBack.memory = s.memory
      ∧ s.enterHeldBack.now = s.now ∧ s.enterHeldBack.pending = s.pending := by
  unfold State.enterHeldBack; simp

@[simp] theorem State.refuseWrite_frame (s : State) (p : Port) (r : RefusalReason) :
    (s.refuseWrite p r).rstn = s.rstn ∧ (s.refuseWrite p r).straps = s.straps ∧ (s.refuseWrite p r).queue = s.queue
      ∧ (s.refuseWrite p r).reads = s.reads ∧ (s.refuseWrite p r).drain = s.drain
      ∧ (s.refuseWrite p r).link = s.link ∧ (s.refuseWrite p r).control = s.control
      ∧ (s.refuseWrite p r).shadow = s.shadow ∧ (s.refuseWrite p r).active = s.active
      ∧ (s.refuseWrite p r).maint = s.maint ∧ (s.refuseWrite p r).memory = s.memory
      ∧ (s.refuseWrite p r).now = s.now ∧ (s.refuseWrite p r).pending = s.pending := by
  unfold State.refuseWrite; simp

@[simp] theorem State.refuseRead_frame (s : State) (p : Port) (r : RefusalReason) :
    (s.refuseRead p r).rstn = s.rstn ∧ (s.refuseRead p r).straps = s.straps ∧ (s.refuseRead p r).queue = s.queue
      ∧ (s.refuseRead p r).reads = s.reads ∧ (s.refuseRead p r).drain = s.drain ∧ (s.refuseRead p r).link = s.link
      ∧ (s.refuseRead p r).control = s.control ∧ (s.refuseRead p r).shadow = s.shadow
      ∧ (s.refuseRead p r).active = s.active ∧ (s.refuseRead p r).maint = s.maint
      ∧ (s.refuseRead p r).memory = s.memory ∧ (s.refuseRead p r).now = s.now
      ∧ (s.refuseRead p r).pending = s.pending := by
  unfold State.refuseRead; simp

@[simp] theorem State.writeAccepted_frame (s : State) (p : Port) (c : AccessClass) (merged : Bool) :
    (s.writeAccepted p c merged).rstn = s.rstn ∧ (s.writeAccepted p c merged).straps = s.straps
      ∧ (s.writeAccepted p c merged).queue = s.queue ∧ (s.writeAccepted p c merged).reads = s.reads
      ∧ (s.writeAccepted p c merged).drain = s.drain ∧ (s.writeAccepted p c merged).link = s.link
      ∧ (s.writeAccepted p c merged).control = s.control ∧ (s.writeAccepted p c merged).shadow = s.shadow
      ∧ (s.writeAccepted p c merged).active = s.active ∧ (s.writeAccepted p c merged).maint = s.maint
      ∧ (s.writeAccepted p c merged).memory = s.memory ∧ (s.writeAccepted p c merged).now = s.now
      ∧ (s.writeAccepted p c merged).pending = s.pending := by
  unfold State.writeAccepted; (try dsimp only); (repeat' split) <;> simp

@[simp] theorem State.waitForSlot_frame (s : State) (p : Port) :
    (s.waitForSlot p).rstn = s.rstn ∧ (s.waitForSlot p).straps = s.straps ∧ (s.waitForSlot p).queue = s.queue
      ∧ (s.waitForSlot p).reads = s.reads ∧ (s.waitForSlot p).drain = s.drain ∧ (s.waitForSlot p).link = s.link
      ∧ (s.waitForSlot p).control = s.control ∧ (s.waitForSlot p).shadow = s.shadow
      ∧ (s.waitForSlot p).active = s.active ∧ (s.waitForSlot p).faults = s.faults
      ∧ (s.waitForSlot p).maint = s.maint ∧ (s.waitForSlot p).memory = s.memory ∧ (s.waitForSlot p).now = s.now
      ∧ (s.waitForSlot p).pending = s.pending := by
  unfold State.waitForSlot; dsimp only; simp

@[simp] theorem State.offerWrite_frame (s : State) (p : Port) :
    (s.offerWrite p).rstn = s.rstn ∧ (s.offerWrite p).straps = s.straps ∧ (s.offerWrite p).reads = s.reads
      ∧ (s.offerWrite p).drain = s.drain ∧ (s.offerWrite p).link = s.link ∧ (s.offerWrite p).control = s.control
      ∧ (s.offerWrite p).shadow = s.shadow ∧ (s.offerWrite p).active = s.active ∧ (s.offerWrite p).maint = s.maint
      ∧ (s.offerWrite p).memory = s.memory ∧ (s.offerWrite p).now = s.now ∧ (s.offerWrite p).pending = s.pending := by
  unfold State.offerWrite; (repeat' split) <;> simp

@[simp] theorem State.handRead_frame (s : State) (p : Port) :
    (s.handRead p).rstn = s.rstn ∧ (s.handRead p).straps = s.straps ∧ (s.handRead p).queue = s.queue
      ∧ (s.handRead p).drain = s.drain ∧ (s.handRead p).link = s.link ∧ (s.handRead p).control = s.control
      ∧ (s.handRead p).shadow = s.shadow ∧ (s.handRead p).active = s.active ∧ (s.handRead p).maint = s.maint
      ∧ (s.handRead p).memory = s.memory ∧ (s.handRead p).now = s.now ∧ (s.handRead p).pending = s.pending := by
  unfold State.handRead; (repeat' split) <;> simp

@[simp] theorem State.offerPending_frame (s : State) (p : Port) :
    (s.offerPending p).rstn = s.rstn ∧ (s.offerPending p).straps = s.straps ∧ (s.offerPending p).reads = s.reads
      ∧ (s.offerPending p).drain = s.drain ∧ (s.offerPending p).link = s.link
      ∧ (s.offerPending p).control = s.control ∧ (s.offerPending p).shadow = s.shadow
      ∧ (s.offerPending p).active = s.active ∧ (s.offerPending p).maint = s.maint
      ∧ (s.offerPending p).memory = s.memory ∧ (s.offerPending p).now = s.now
      ∧ (s.offerPending p).pending = s.pending := by
  unfold State.offerPending; (repeat' split) <;> simp

@[simp] theorem State.servePending_frame (s : State) :
    s.servePending.rstn = s.rstn ∧ s.servePending.straps = s.straps ∧ s.servePending.reads = s.reads
      ∧ s.servePending.drain = s.drain ∧ s.servePending.link = s.link ∧ s.servePending.control = s.control
      ∧ s.servePending.shadow = s.shadow ∧ s.servePending.active = s.active ∧ s.servePending.maint = s.maint
      ∧ s.servePending.memory = s.memory ∧ s.servePending.now = s.now ∧ s.servePending.pending = s.pending := by
  unfold State.servePending; (repeat' split) <;> simp

@[simp] theorem State.releaseRead_frame (s : State) (p : Port) :
    (s.releaseRead p).rstn = s.rstn ∧ (s.releaseRead p).straps = s.straps ∧ (s.releaseRead p).queue = s.queue
      ∧ (s.releaseRead p).drain = s.drain ∧ (s.releaseRead p).link = s.link ∧ (s.releaseRead p).control = s.control
      ∧ (s.releaseRead p).shadow = s.shadow ∧ (s.releaseRead p).active = s.active
      ∧ (s.releaseRead p).maint = s.maint ∧ (s.releaseRead p).memory = s.memory ∧ (s.releaseRead p).now = s.now
      ∧ (s.releaseRead p).pending = s.pending := by
  unfold State.releaseRead; (repeat' split) <;> simp

@[simp] theorem State.refusePending_frame (s : State) (p : Port) :
    (s.refusePending p).rstn = s.rstn ∧ (s.refusePending p).straps = s.straps ∧ (s.refusePending p).queue = s.queue
      ∧ (s.refusePending p).reads = s.reads ∧ (s.refusePending p).drain = s.drain
      ∧ (s.refusePending p).link = s.link ∧ (s.refusePending p).control = s.control
      ∧ (s.refusePending p).shadow = s.shadow ∧ (s.refusePending p).active = s.active
      ∧ (s.refusePending p).maint = s.maint ∧ (s.refusePending p).memory = s.memory
      ∧ (s.refusePending p).now = s.now ∧ (s.refusePending p).pending = s.pending := by
  unfold State.refusePending; (repeat' split) <;> simp

@[simp] theorem State.failStalled_frame (s : State) (p : Port) :
    (s.failStalled p).rstn = s.rstn ∧ (s.failStalled p).straps = s.straps ∧ (s.failStalled p).queue = s.queue
      ∧ (s.failStalled p).reads = s.reads ∧ (s.failStalled p).drain = s.drain ∧ (s.failStalled p).link = s.link
      ∧ (s.failStalled p).control = s.control ∧ (s.failStalled p).shadow = s.shadow
      ∧ (s.failStalled p).active = s.active ∧ (s.failStalled p).faults = s.faults
      ∧ (s.failStalled p).maint = s.maint ∧ (s.failStalled p).memory = s.memory ∧ (s.failStalled p).now = s.now
      ∧ (s.failStalled p).pending = s.pending := by
  unfold State.failStalled; (repeat' split) <;> simp

@[simp] theorem State.portsOnMode_frame (s : State) (old new : Mode) :
    (s.portsOnMode old new).rstn = s.rstn ∧ (s.portsOnMode old new).straps = s.straps
      ∧ (s.portsOnMode old new).drain = s.drain ∧ (s.portsOnMode old new).link = s.link
      ∧ (s.portsOnMode old new).control = s.control ∧ (s.portsOnMode old new).shadow = s.shadow
      ∧ (s.portsOnMode old new).active = s.active ∧ (s.portsOnMode old new).maint = s.maint
      ∧ (s.portsOnMode old new).memory = s.memory ∧ (s.portsOnMode old new).now = s.now
      ∧ (s.portsOnMode old new).pending = s.pending := by
  unfold State.portsOnMode; (repeat' split) <;> simp

@[simp] theorem State.throughOutcome_frame (s : State) (p : Port) (success : Bool) :
    (s.throughOutcome p success).rstn = s.rstn ∧ (s.throughOutcome p success).straps = s.straps
      ∧ (s.throughOutcome p success).queue = s.queue ∧ (s.throughOutcome p success).reads = s.reads
      ∧ (s.throughOutcome p success).drain = s.drain ∧ (s.throughOutcome p success).link = s.link
      ∧ (s.throughOutcome p success).control = s.control ∧ (s.throughOutcome p success).shadow = s.shadow
      ∧ (s.throughOutcome p success).active = s.active ∧ (s.throughOutcome p success).faults = s.faults
      ∧ (s.throughOutcome p success).maint = s.maint ∧ (s.throughOutcome p success).memory = s.memory
      ∧ (s.throughOutcome p success).now = s.now ∧ (s.throughOutcome p success).pending = s.pending := by
  unfold State.throughOutcome; (repeat' split) <;> simp

@[simp] theorem State.tellWaiters_frame (s : State) (w : PortSet) (success : Bool) :
    (s.tellWaiters w success).rstn = s.rstn ∧ (s.tellWaiters w success).straps = s.straps
      ∧ (s.tellWaiters w success).queue = s.queue ∧ (s.tellWaiters w success).reads = s.reads
      ∧ (s.tellWaiters w success).drain = s.drain ∧ (s.tellWaiters w success).link = s.link
      ∧ (s.tellWaiters w success).control = s.control ∧ (s.tellWaiters w success).shadow = s.shadow
      ∧ (s.tellWaiters w success).active = s.active ∧ (s.tellWaiters w success).faults = s.faults
      ∧ (s.tellWaiters w success).maint = s.maint ∧ (s.tellWaiters w success).memory = s.memory
      ∧ (s.tellWaiters w success).now = s.now ∧ (s.tellWaiters w success).pending = s.pending := by
  unfold State.tellWaiters; (try dsimp only); (repeat' split) <;> simp

@[simp] theorem State.dropWaiter_frame (s : State) (p : Port) :
    (s.dropWaiter p).rstn = s.rstn ∧ (s.dropWaiter p).straps = s.straps ∧ (s.dropWaiter p).ports = s.ports
      ∧ (s.dropWaiter p).reads = s.reads ∧ (s.dropWaiter p).link = s.link ∧ (s.dropWaiter p).control = s.control
      ∧ (s.dropWaiter p).shadow = s.shadow ∧ (s.dropWaiter p).active = s.active ∧ (s.dropWaiter p).faults = s.faults
      ∧ (s.dropWaiter p).maint = s.maint ∧ (s.dropWaiter p).memory = s.memory ∧ (s.dropWaiter p).now = s.now
      ∧ (s.dropWaiter p).pending = s.pending := by
  unfold State.dropWaiter; dsimp only; simp

@[simp] theorem State.leaveWait_frame (s : State) (p : Port) :
    (s.leaveWait p).rstn = s.rstn ∧ (s.leaveWait p).straps = s.straps ∧ (s.leaveWait p).ports = s.ports
      ∧ (s.leaveWait p).link = s.link ∧ (s.leaveWait p).control = s.control ∧ (s.leaveWait p).shadow = s.shadow
      ∧ (s.leaveWait p).active = s.active ∧ (s.leaveWait p).faults = s.faults ∧ (s.leaveWait p).maint = s.maint
      ∧ (s.leaveWait p).memory = s.memory ∧ (s.leaveWait p).now = s.now ∧ (s.leaveWait p).pending = s.pending := by
  unfold State.leaveWait; (repeat' split) <;> simp

@[simp] theorem State.expireWait_frame (s : State) (p : Port) :
    (s.expireWait p).rstn = s.rstn ∧ (s.expireWait p).straps = s.straps ∧ (s.expireWait p).link = s.link
      ∧ (s.expireWait p).control = s.control ∧ (s.expireWait p).shadow = s.shadow
      ∧ (s.expireWait p).active = s.active ∧ (s.expireWait p).maint = s.maint ∧ (s.expireWait p).memory = s.memory
      ∧ (s.expireWait p).now = s.now ∧ (s.expireWait p).pending = s.pending := by
  unfold State.expireWait; simp

@[simp] theorem State.withdrawWait_frame (s : State) (p : Port) :
    (s.withdrawWait p).rstn = s.rstn ∧ (s.withdrawWait p).straps = s.straps ∧ (s.withdrawWait p).link = s.link
      ∧ (s.withdrawWait p).control = s.control ∧ (s.withdrawWait p).shadow = s.shadow
      ∧ (s.withdrawWait p).active = s.active ∧ (s.withdrawWait p).maint = s.maint
      ∧ (s.withdrawWait p).memory = s.memory ∧ (s.withdrawWait p).now = s.now
      ∧ (s.withdrawWait p).pending = s.pending := by
  unfold State.withdrawWait; simp

@[simp] theorem State.capture_frame (s : State) (p : Port) (acc : Access) :
    (s.capture p acc).rstn = s.rstn ∧ (s.capture p acc).straps = s.straps ∧ (s.capture p acc).queue = s.queue
      ∧ (s.capture p acc).reads = s.reads ∧ (s.capture p acc).drain = s.drain ∧ (s.capture p acc).link = s.link
      ∧ (s.capture p acc).control = s.control ∧ (s.capture p acc).shadow = s.shadow
      ∧ (s.capture p acc).active = s.active ∧ (s.capture p acc).faults = s.faults
      ∧ (s.capture p acc).maint = s.maint ∧ (s.capture p acc).memory = s.memory ∧ (s.capture p acc).now = s.now
      ∧ (s.capture p acc).pending = s.pending := by
  unfold State.capture; simp

@[simp] theorem State.stallForMode_frame (s : State) (p : Port) (write : Bool) :
    (s.stallForMode p write).rstn = s.rstn ∧ (s.stallForMode p write).straps = s.straps
      ∧ (s.stallForMode p write).queue = s.queue ∧ (s.stallForMode p write).reads = s.reads
      ∧ (s.stallForMode p write).drain = s.drain ∧ (s.stallForMode p write).link = s.link
      ∧ (s.stallForMode p write).control = s.control ∧ (s.stallForMode p write).shadow = s.shadow
      ∧ (s.stallForMode p write).active = s.active ∧ (s.stallForMode p write).faults = s.faults
      ∧ (s.stallForMode p write).maint = s.maint ∧ (s.stallForMode p write).memory = s.memory
      ∧ (s.stallForMode p write).now = s.now ∧ (s.stallForMode p write).pending = s.pending := by
  unfold State.stallForMode; (try dsimp only); (repeat' split) <;> simp

@[simp] theorem State.refusePf_frame (s : State) (p : Port) :
    (s.refusePf p).rstn = s.rstn ∧ (s.refusePf p).straps = s.straps ∧ (s.refusePf p).queue = s.queue
      ∧ (s.refusePf p).reads = s.reads ∧ (s.refusePf p).drain = s.drain ∧ (s.refusePf p).link = s.link
      ∧ (s.refusePf p).control = s.control ∧ (s.refusePf p).shadow = s.shadow ∧ (s.refusePf p).active = s.active
      ∧ (s.refusePf p).maint = s.maint ∧ (s.refusePf p).memory = s.memory ∧ (s.refusePf p).now = s.now
      ∧ (s.refusePf p).pending = s.pending := by
  unfold State.refusePf; simp

@[simp] theorem State.handleByMode_frame (s : State) (p : Port) (write : Bool) :
    (s.handleByMode p write).rstn = s.rstn ∧ (s.handleByMode p write).straps = s.straps
      ∧ (s.handleByMode p write).drain = s.drain ∧ (s.handleByMode p write).link = s.link
      ∧ (s.handleByMode p write).control = s.control ∧ (s.handleByMode p write).shadow = s.shadow
      ∧ (s.handleByMode p write).active = s.active ∧ (s.handleByMode p write).maint = s.maint
      ∧ (s.handleByMode p write).memory = s.memory ∧ (s.handleByMode p write).now = s.now
      ∧ (s.handleByMode p write).pending = s.pending := by
  unfold State.handleByMode; (repeat' split) <;> simp

@[simp] theorem State.completeNoLane_frame (s : State) (p : Port) (write : Bool) :
    (s.completeNoLane p write).rstn = s.rstn ∧ (s.completeNoLane p write).straps = s.straps
      ∧ (s.completeNoLane p write).queue = s.queue ∧ (s.completeNoLane p write).reads = s.reads
      ∧ (s.completeNoLane p write).drain = s.drain ∧ (s.completeNoLane p write).link = s.link
      ∧ (s.completeNoLane p write).control = s.control ∧ (s.completeNoLane p write).shadow = s.shadow
      ∧ (s.completeNoLane p write).active = s.active ∧ (s.completeNoLane p write).faults = s.faults
      ∧ (s.completeNoLane p write).maint = s.maint ∧ (s.completeNoLane p write).memory = s.memory
      ∧ (s.completeNoLane p write).now = s.now ∧ (s.completeNoLane p write).pending = s.pending := by
  unfold State.completeNoLane; (repeat' split) <;> simp

@[simp] theorem State.beginAccess_frame (s : State) (p : Port) (acc : Access) :
    (s.beginAccess p acc).rstn = s.rstn ∧ (s.beginAccess p acc).straps = s.straps
      ∧ (s.beginAccess p acc).drain = s.drain ∧ (s.beginAccess p acc).link = s.link
      ∧ (s.beginAccess p acc).control = s.control ∧ (s.beginAccess p acc).shadow = s.shadow
      ∧ (s.beginAccess p acc).active = s.active ∧ (s.beginAccess p acc).maint = s.maint
      ∧ (s.beginAccess p acc).memory = s.memory ∧ (s.beginAccess p acc).now = s.now
      ∧ (s.beginAccess p acc).pending = s.pending := by
  unfold State.beginAccess; (try dsimp only); (repeat' split) <;> simp

@[simp] theorem State.actOnMode_frame (s : State) :
    s.actOnMode.rstn = s.rstn ∧ s.actOnMode.straps = s.straps ∧ s.actOnMode.drain = s.drain
      ∧ s.actOnMode.link = s.link ∧ s.actOnMode.control = s.control ∧ s.actOnMode.shadow = s.shadow
      ∧ s.actOnMode.active = s.active ∧ s.actOnMode.maint = s.maint ∧ s.actOnMode.memory = s.memory
      ∧ s.actOnMode.now = s.now ∧ s.actOnMode.pending = s.pending := by
  unfold State.actOnMode; (try dsimp only); (repeat' split) <;> simp

/-! ### FLUSH and modes -/

@[simp] theorem State.judgeFlush_frame (s : State) :
    s.judgeFlush.rstn = s.rstn ∧ s.judgeFlush.straps = s.straps ∧ s.judgeFlush.ports = s.ports
      ∧ s.judgeFlush.queue = s.queue ∧ s.judgeFlush.reads = s.reads ∧ s.judgeFlush.drain = s.drain
      ∧ s.judgeFlush.link = s.link ∧ s.judgeFlush.control = s.control ∧ s.judgeFlush.shadow = s.shadow
      ∧ s.judgeFlush.active = s.active ∧ s.judgeFlush.faults = s.faults ∧ s.judgeFlush.memory = s.memory
      ∧ s.judgeFlush.now = s.now ∧ s.judgeFlush.pending = s.pending := by
  unfold State.judgeFlush; (repeat' split) <;> simp

@[simp] theorem State.truncateFlush_frame (s : State) :
    s.truncateFlush.rstn = s.rstn ∧ s.truncateFlush.straps = s.straps ∧ s.truncateFlush.ports = s.ports
      ∧ s.truncateFlush.queue = s.queue ∧ s.truncateFlush.reads = s.reads ∧ s.truncateFlush.drain = s.drain
      ∧ s.truncateFlush.link = s.link ∧ s.truncateFlush.control = s.control ∧ s.truncateFlush.shadow = s.shadow
      ∧ s.truncateFlush.active = s.active ∧ s.truncateFlush.faults = s.faults ∧ s.truncateFlush.memory = s.memory
      ∧ s.truncateFlush.now = s.now ∧ s.truncateFlush.pending = s.pending := by
  unfold State.truncateFlush; (repeat' split) <;> simp

@[simp] theorem State.changeMode_frame (s : State) (new : Mode) :
    (s.changeMode new).rstn = s.rstn ∧ (s.changeMode new).straps = s.straps ∧ (s.changeMode new).drain = s.drain
      ∧ (s.changeMode new).link = s.link ∧ (s.changeMode new).shadow = s.shadow
      ∧ (s.changeMode new).active = s.active ∧ (s.changeMode new).maint = s.maint
      ∧ (s.changeMode new).memory = s.memory ∧ (s.changeMode new).now = s.now
      ∧ (s.changeMode new).pending = s.pending := by
  unfold State.changeMode; simp

@[simp] theorem State.startupFailed_frame (s : State) (r : StartupReason) :
    (s.startupFailed r).rstn = s.rstn ∧ (s.startupFailed r).straps = s.straps ∧ (s.startupFailed r).drain = s.drain
      ∧ (s.startupFailed r).link = s.link ∧ (s.startupFailed r).shadow = s.shadow
      ∧ (s.startupFailed r).active = s.active ∧ (s.startupFailed r).maint = s.maint
      ∧ (s.startupFailed r).memory = s.memory ∧ (s.startupFailed r).now = s.now
      ∧ (s.startupFailed r).pending = s.pending := by
  unfold State.startupFailed; (repeat' split) <;> simp

@[simp] theorem State.markerFailed_frame (s : State) (r : FailReason) :
    (s.markerFailed r).rstn = s.rstn ∧ (s.markerFailed r).straps = s.straps ∧ (s.markerFailed r).ports = s.ports
      ∧ (s.markerFailed r).queue = s.queue ∧ (s.markerFailed r).reads = s.reads ∧ (s.markerFailed r).drain = s.drain
      ∧ (s.markerFailed r).link = s.link ∧ (s.markerFailed r).control = s.control
      ∧ (s.markerFailed r).shadow = s.shadow ∧ (s.markerFailed r).active = s.active
      ∧ (s.markerFailed r).maint = s.maint ∧ (s.markerFailed r).memory = s.memory ∧ (s.markerFailed r).now = s.now
      ∧ (s.markerFailed r).pending = s.pending := by
  unfold State.markerFailed; simp

@[simp] theorem State.abortApplyPfail_frame (s : State) :
    s.abortApplyPfail.rstn = s.rstn ∧ s.abortApplyPfail.straps = s.straps ∧ s.abortApplyPfail.ports = s.ports
      ∧ s.abortApplyPfail.queue = s.queue ∧ s.abortApplyPfail.reads = s.reads ∧ s.abortApplyPfail.drain = s.drain
      ∧ s.abortApplyPfail.link = s.link ∧ s.abortApplyPfail.control = s.control
      ∧ s.abortApplyPfail.shadow = s.shadow ∧ s.abortApplyPfail.active = s.active
      ∧ s.abortApplyPfail.faults = s.faults ∧ s.abortApplyPfail.memory = s.memory ∧ s.abortApplyPfail.now = s.now
      ∧ s.abortApplyPfail.pending = s.pending := by
  unfold State.abortApplyPfail; (repeat' split) <;> simp

@[simp] theorem State.abortDirect_frame (s : State) :
    s.abortDirect.rstn = s.rstn ∧ s.abortDirect.straps = s.straps ∧ s.abortDirect.ports = s.ports
      ∧ s.abortDirect.queue = s.queue ∧ s.abortDirect.reads = s.reads ∧ s.abortDirect.drain = s.drain
      ∧ s.abortDirect.link = s.link ∧ s.abortDirect.control = s.control ∧ s.abortDirect.shadow = s.shadow
      ∧ s.abortDirect.active = s.active ∧ s.abortDirect.faults = s.faults ∧ s.abortDirect.memory = s.memory
      ∧ s.abortDirect.now = s.now ∧ s.abortDirect.pending = s.pending := by
  unfold State.abortDirect; (try dsimp only); (repeat' split) <;> simp

@[simp] theorem State.enterPfDrain_frame (s : State) :
    s.enterPfDrain.rstn = s.rstn ∧ s.enterPfDrain.straps = s.straps ∧ s.enterPfDrain.link = s.link
      ∧ s.enterPfDrain.shadow = s.shadow ∧ s.enterPfDrain.active = s.active ∧ s.enterPfDrain.memory = s.memory
      ∧ s.enterPfDrain.now = s.now ∧ s.enterPfDrain.pending = s.pending := by
  unfold State.enterPfDrain; dsimp only; simp

@[simp] theorem State.completeApply_frame (s : State) :
    s.completeApply.rstn = s.rstn ∧ s.completeApply.straps = s.straps ∧ s.completeApply.drain = s.drain
      ∧ s.completeApply.link = s.link ∧ s.completeApply.shadow = s.shadow ∧ s.completeApply.memory = s.memory
      ∧ s.completeApply.now = s.now ∧ s.completeApply.pending = s.pending := by
  unfold State.completeApply; dsimp only; simp

@[simp] theorem State.judgeApply_frame (s : State) :
    s.judgeApply.rstn = s.rstn ∧ s.judgeApply.straps = s.straps ∧ s.judgeApply.drain = s.drain
      ∧ s.judgeApply.link = s.link ∧ s.judgeApply.shadow = s.shadow ∧ s.judgeApply.memory = s.memory
      ∧ s.judgeApply.now = s.now ∧ s.judgeApply.pending = s.pending := by
  unfold State.judgeApply; (repeat' split) <;> simp

@[simp] theorem State.abortApplyHeld_frame (s : State) :
    s.abortApplyHeld.rstn = s.rstn ∧ s.abortApplyHeld.straps = s.straps ∧ s.abortApplyHeld.drain = s.drain
      ∧ s.abortApplyHeld.link = s.link ∧ s.abortApplyHeld.shadow = s.shadow ∧ s.abortApplyHeld.active = s.active
      ∧ s.abortApplyHeld.memory = s.memory ∧ s.abortApplyHeld.now = s.now ∧ s.abortApplyHeld.pending = s.pending := by
  unfold State.abortApplyHeld; (repeat' split) <;> simp

@[simp] theorem State.requestMarker_frame (s : State) :
    s.requestMarker.rstn = s.rstn ∧ s.requestMarker.straps = s.straps ∧ s.requestMarker.ports = s.ports
      ∧ s.requestMarker.queue = s.queue ∧ s.requestMarker.reads = s.reads ∧ s.requestMarker.drain = s.drain
      ∧ s.requestMarker.link = s.link ∧ s.requestMarker.shadow = s.shadow ∧ s.requestMarker.active = s.active
      ∧ s.requestMarker.faults = s.faults ∧ s.requestMarker.maint = s.maint ∧ s.requestMarker.memory = s.memory
      ∧ s.requestMarker.now = s.now ∧ s.requestMarker.pending = s.pending := by
  unfold State.requestMarker; (try dsimp only); (repeat' split) <;> simp

/-! ### The link sequencer -/

@[simp] theorem State.issue_frame (s : State) (op : MemOp) :
    (s.issue op).rstn = s.rstn ∧ (s.issue op).straps = s.straps ∧ (s.issue op).ports = s.ports
      ∧ (s.issue op).queue = s.queue ∧ (s.issue op).reads = s.reads ∧ (s.issue op).drain = s.drain
      ∧ (s.issue op).control = s.control ∧ (s.issue op).shadow = s.shadow ∧ (s.issue op).active = s.active
      ∧ (s.issue op).faults = s.faults ∧ (s.issue op).maint = s.maint ∧ (s.issue op).memory = s.memory
      ∧ (s.issue op).now = s.now ∧ (s.issue op).pending = s.pending := by
  unfold State.issue; simp

@[simp] theorem State.releaseLink_frame (s : State) :
    s.releaseLink.rstn = s.rstn ∧ s.releaseLink.straps = s.straps ∧ s.releaseLink.ports = s.ports
      ∧ s.releaseLink.queue = s.queue ∧ s.releaseLink.reads = s.reads ∧ s.releaseLink.drain = s.drain
      ∧ s.releaseLink.control = s.control ∧ s.releaseLink.shadow = s.shadow ∧ s.releaseLink.active = s.active
      ∧ s.releaseLink.faults = s.faults ∧ s.releaseLink.maint = s.maint ∧ s.releaseLink.memory = s.memory
      ∧ s.releaseLink.now = s.now ∧ s.releaseLink.pending = s.pending := by
  unfold State.releaseLink; simp

@[simp] theorem State.enableOrPin_frame (s : State) :
    s.enableOrPin.rstn = s.rstn ∧ s.enableOrPin.straps = s.straps ∧ s.enableOrPin.ports = s.ports
      ∧ s.enableOrPin.queue = s.queue ∧ s.enableOrPin.reads = s.reads ∧ s.enableOrPin.drain = s.drain
      ∧ s.enableOrPin.control = s.control ∧ s.enableOrPin.shadow = s.shadow ∧ s.enableOrPin.active = s.active
      ∧ s.enableOrPin.faults = s.faults ∧ s.enableOrPin.maint = s.maint ∧ s.enableOrPin.memory = s.memory
      ∧ s.enableOrPin.now = s.now ∧ s.enableOrPin.pending = s.pending := by
  unfold State.enableOrPin; (try dsimp only); (repeat' split) <;> simp

@[simp] theorem State.beginAttempt_frame (s : State) :
    s.beginAttempt.rstn = s.rstn ∧ s.beginAttempt.straps = s.straps ∧ s.beginAttempt.ports = s.ports
      ∧ s.beginAttempt.queue = s.queue ∧ s.beginAttempt.reads = s.reads ∧ s.beginAttempt.drain = s.drain
      ∧ s.beginAttempt.control = s.control ∧ s.beginAttempt.shadow = s.shadow ∧ s.beginAttempt.active = s.active
      ∧ s.beginAttempt.faults = s.faults ∧ s.beginAttempt.maint = s.maint ∧ s.beginAttempt.memory = s.memory
      ∧ s.beginAttempt.now = s.now ∧ s.beginAttempt.pending = s.pending := by
  unfold State.beginAttempt; (repeat' split) <;> simp

@[simp] theorem State.startProgramAttempt_frame (s : State) (b : Buf) :
    (s.startProgramAttempt b).rstn = s.rstn ∧ (s.startProgramAttempt b).straps = s.straps
      ∧ (s.startProgramAttempt b).ports = s.ports ∧ (s.startProgramAttempt b).queue = s.queue
      ∧ (s.startProgramAttempt b).reads = s.reads ∧ (s.startProgramAttempt b).control = s.control
      ∧ (s.startProgramAttempt b).shadow = s.shadow ∧ (s.startProgramAttempt b).active = s.active
      ∧ (s.startProgramAttempt b).faults = s.faults ∧ (s.startProgramAttempt b).maint = s.maint
      ∧ (s.startProgramAttempt b).memory = s.memory ∧ (s.startProgramAttempt b).now = s.now
      ∧ (s.startProgramAttempt b).pending = s.pending := by
  unfold State.startProgramAttempt; dsimp only; simp

@[simp] theorem State.startMarkerAttempt_frame (s : State) :
    s.startMarkerAttempt.rstn = s.rstn ∧ s.startMarkerAttempt.straps = s.straps
      ∧ s.startMarkerAttempt.ports = s.ports ∧ s.startMarkerAttempt.queue = s.queue
      ∧ s.startMarkerAttempt.reads = s.reads ∧ s.startMarkerAttempt.drain = s.drain
      ∧ s.startMarkerAttempt.shadow = s.shadow ∧ s.startMarkerAttempt.active = s.active
      ∧ s.startMarkerAttempt.faults = s.faults ∧ s.startMarkerAttempt.maint = s.maint
      ∧ s.startMarkerAttempt.memory = s.memory ∧ s.startMarkerAttempt.now = s.now
      ∧ s.startMarkerAttempt.pending = s.pending := by
  unfold State.startMarkerAttempt; dsimp only; simp

@[simp] theorem State.chargePageWrite_frame (s : State) :
    s.chargePageWrite.rstn = s.rstn ∧ s.chargePageWrite.straps = s.straps ∧ s.chargePageWrite.ports = s.ports
      ∧ s.chargePageWrite.queue = s.queue ∧ s.chargePageWrite.reads = s.reads ∧ s.chargePageWrite.drain = s.drain
      ∧ s.chargePageWrite.link = s.link ∧ s.chargePageWrite.shadow = s.shadow ∧ s.chargePageWrite.active = s.active
      ∧ s.chargePageWrite.faults = s.faults ∧ s.chargePageWrite.maint = s.maint
      ∧ s.chargePageWrite.memory = s.memory ∧ s.chargePageWrite.now = s.now ∧ s.chargePageWrite.pending = s.pending := by
  unfold State.chargePageWrite; (try dsimp only); (repeat' split) <;> simp

@[simp] theorem State.countRunIssued_frame (s : State) :
    s.countRunIssued.rstn = s.rstn ∧ s.countRunIssued.straps = s.straps ∧ s.countRunIssued.ports = s.ports
      ∧ s.countRunIssued.queue = s.queue ∧ s.countRunIssued.reads = s.reads ∧ s.countRunIssued.drain = s.drain
      ∧ s.countRunIssued.link = s.link ∧ s.countRunIssued.control = s.control ∧ s.countRunIssued.shadow = s.shadow
      ∧ s.countRunIssued.active = s.active ∧ s.countRunIssued.faults = s.faults ∧ s.countRunIssued.memory = s.memory
      ∧ s.countRunIssued.now = s.now ∧ s.countRunIssued.pending = s.pending := by
  unfold State.countRunIssued; (try dsimp only); (repeat' split) <;> simp

/-! ### Programs, the marker and direct operations -/

@[simp] theorem State.supersede_frame (s : State) (b : Buf) :
    (s.supersede b).rstn = s.rstn ∧ (s.supersede b).straps = s.straps ∧ (s.supersede b).queue = s.queue
      ∧ (s.supersede b).reads = s.reads ∧ (s.supersede b).link = s.link ∧ (s.supersede b).control = s.control
      ∧ (s.supersede b).shadow = s.shadow ∧ (s.supersede b).active = s.active ∧ (s.supersede b).maint = s.maint
      ∧ (s.supersede b).memory = s.memory ∧ (s.supersede b).now = s.now ∧ (s.supersede b).pending = s.pending := by
  unfold State.supersede; (try dsimp only); (repeat' split) <;> simp

@[simp] theorem State.endProgram_frame (s : State) :
    s.endProgram.rstn = s.rstn ∧ s.endProgram.straps = s.straps ∧ s.endProgram.ports = s.ports
      ∧ s.endProgram.queue = s.queue ∧ s.endProgram.reads = s.reads ∧ s.endProgram.control = s.control
      ∧ s.endProgram.shadow = s.shadow ∧ s.endProgram.active = s.active ∧ s.endProgram.faults = s.faults
      ∧ s.endProgram.maint = s.maint ∧ s.endProgram.memory = s.memory ∧ s.endProgram.now = s.now
      ∧ s.endProgram.pending = s.pending := by
  unfold State.endProgram; dsimp only; simp

@[simp] theorem State.programSuccess_frame (s : State) (b : Buf) :
    (s.programSuccess b).rstn = s.rstn ∧ (s.programSuccess b).straps = s.straps
      ∧ (s.programSuccess b).shadow = s.shadow ∧ (s.programSuccess b).memory = s.memory
      ∧ (s.programSuccess b).now = s.now ∧ (s.programSuccess b).pending = s.pending := by
  unfold State.programSuccess; dsimp only; simp

@[simp] theorem State.finalFailure_frame (s : State) (b : Buf) (r : FailReason) :
    (s.finalFailure b r).rstn = s.rstn ∧ (s.finalFailure b r).straps = s.straps
      ∧ (s.finalFailure b r).shadow = s.shadow ∧ (s.finalFailure b r).active = s.active
      ∧ (s.finalFailure b r).memory = s.memory ∧ (s.finalFailure b r).now = s.now
      ∧ (s.finalFailure b r).pending = s.pending := by
  unfold State.finalFailure; (try dsimp only); (repeat' split) <;> simp

@[simp] theorem State.suspend_frame (s : State) (b : Buf) :
    (s.suspend b).rstn = s.rstn ∧ (s.suspend b).straps = s.straps ∧ (s.suspend b).ports = s.ports
      ∧ (s.suspend b).queue = s.queue ∧ (s.suspend b).reads = s.reads ∧ (s.suspend b).control = s.control
      ∧ (s.suspend b).shadow = s.shadow ∧ (s.suspend b).active = s.active ∧ (s.suspend b).faults = s.faults
      ∧ (s.suspend b).maint = s.maint ∧ (s.suspend b).memory = s.memory ∧ (s.suspend b).now = s.now
      ∧ (s.suspend b).pending = s.pending := by
  unfold State.suspend; dsimp only; simp

@[simp] theorem State.attemptFailed_frame (s : State) (b : Buf) (r : FailReason) :
    (s.attemptFailed b r).rstn = s.rstn ∧ (s.attemptFailed b r).straps = s.straps
      ∧ (s.attemptFailed b r).shadow = s.shadow ∧ (s.attemptFailed b r).active = s.active
      ∧ (s.attemptFailed b r).memory = s.memory ∧ (s.attemptFailed b r).now = s.now
      ∧ (s.attemptFailed b r).pending = s.pending := by
  unfold State.attemptFailed; (try dsimp only); (repeat' split) <;> simp

@[simp] theorem State.judgeProgram_frame (s : State) (b : Buf) (st : Byte) :
    (s.judgeProgram b st).rstn = s.rstn ∧ (s.judgeProgram b st).straps = s.straps
      ∧ (s.judgeProgram b st).shadow = s.shadow ∧ (s.judgeProgram b st).memory = s.memory
      ∧ (s.judgeProgram b st).now = s.now ∧ (s.judgeProgram b st).pending = s.pending := by
  unfold State.judgeProgram; (try dsimp only); (repeat' split) <;> simp

@[simp] theorem State.grantMarkerWrite_frame (s : State) :
    s.grantMarkerWrite.rstn = s.rstn ∧ s.grantMarkerWrite.straps = s.straps ∧ s.grantMarkerWrite.ports = s.ports
      ∧ s.grantMarkerWrite.queue = s.queue ∧ s.grantMarkerWrite.reads = s.reads ∧ s.grantMarkerWrite.drain = s.drain
      ∧ s.grantMarkerWrite.shadow = s.shadow ∧ s.grantMarkerWrite.active = s.active
      ∧ s.grantMarkerWrite.faults = s.faults ∧ s.grantMarkerWrite.memory = s.memory ∧ s.grantMarkerWrite.now = s.now
      ∧ s.grantMarkerWrite.pending = s.pending := by
  unfold State.grantMarkerWrite; (try dsimp only); (repeat' split) <;> simp

@[simp] theorem State.startupNext_frame (s : State) (next : CtrlReq) :
    (s.startupNext next).rstn = s.rstn ∧ (s.startupNext next).straps = s.straps
      ∧ (s.startupNext next).drain = s.drain ∧ (s.startupNext next).link = s.link
      ∧ (s.startupNext next).shadow = s.shadow ∧ (s.startupNext next).active = s.active
      ∧ (s.startupNext next).maint = s.maint ∧ (s.startupNext next).memory = s.memory
      ∧ (s.startupNext next).now = s.now ∧ (s.startupNext next).pending = s.pending := by
  unfold State.startupNext; (try dsimp only); (repeat' split) <;> simp

@[simp] theorem State.startupDone_frame (s : State) :
    s.startupDone.rstn = s.rstn ∧ s.startupDone.straps = s.straps ∧ s.startupDone.drain = s.drain
      ∧ s.startupDone.link = s.link ∧ s.startupDone.shadow = s.shadow ∧ s.startupDone.active = s.active
      ∧ s.startupDone.maint = s.maint ∧ s.startupDone.memory = s.memory ∧ s.startupDone.now = s.now
      ∧ s.startupDone.pending = s.pending := by
  unfold State.startupDone; (repeat' split) <;> simp

@[simp] theorem State.drainMarkerDone_frame (s : State) :
    s.drainMarkerDone.rstn = s.rstn ∧ s.drainMarkerDone.straps = s.straps ∧ s.drainMarkerDone.drain = s.drain
      ∧ s.drainMarkerDone.link = s.link ∧ s.drainMarkerDone.shadow = s.shadow ∧ s.drainMarkerDone.active = s.active
      ∧ s.drainMarkerDone.maint = s.maint ∧ s.drainMarkerDone.memory = s.memory ∧ s.drainMarkerDone.now = s.now
      ∧ s.drainMarkerDone.pending = s.pending := by
  unfold State.drainMarkerDone; (repeat' split) <;> simp

@[simp] theorem State.resumeMarkerDone_frame (s : State) :
    s.resumeMarkerDone.rstn = s.rstn ∧ s.resumeMarkerDone.straps = s.straps ∧ s.resumeMarkerDone.link = s.link
      ∧ s.resumeMarkerDone.shadow = s.shadow ∧ s.resumeMarkerDone.active = s.active
      ∧ s.resumeMarkerDone.memory = s.memory ∧ s.resumeMarkerDone.now = s.now
      ∧ s.resumeMarkerDone.pending = s.pending := by
  unfold State.resumeMarkerDone; (repeat' split) <;> simp

@[simp] theorem State.markerSuccess_frame (s : State) :
    s.markerSuccess.rstn = s.rstn ∧ s.markerSuccess.straps = s.straps ∧ s.markerSuccess.shadow = s.shadow
      ∧ s.markerSuccess.active = s.active ∧ s.markerSuccess.memory = s.memory ∧ s.markerSuccess.now = s.now
      ∧ s.markerSuccess.pending = s.pending := by
  unfold State.markerSuccess; (try dsimp only); (repeat' split) <;> simp

@[simp] theorem State.markerGivenUp_frame (s : State) (r : FailReason) :
    (s.markerGivenUp r).rstn = s.rstn ∧ (s.markerGivenUp r).straps = s.straps
      ∧ (s.markerGivenUp r).shadow = s.shadow ∧ (s.markerGivenUp r).active = s.active
      ∧ (s.markerGivenUp r).memory = s.memory ∧ (s.markerGivenUp r).now = s.now
      ∧ (s.markerGivenUp r).pending = s.pending := by
  unfold State.markerGivenUp; (try dsimp only); (repeat' split) <;> simp

@[simp] theorem State.markerAttemptFailed_frame (s : State) (r : FailReason) :
    (s.markerAttemptFailed r).rstn = s.rstn ∧ (s.markerAttemptFailed r).straps = s.straps
      ∧ (s.markerAttemptFailed r).shadow = s.shadow ∧ (s.markerAttemptFailed r).active = s.active
      ∧ (s.markerAttemptFailed r).memory = s.memory ∧ (s.markerAttemptFailed r).now = s.now
      ∧ (s.markerAttemptFailed r).pending = s.pending := by
  unfold State.markerAttemptFailed; (try dsimp only); (repeat' split) <;> simp

@[simp] theorem State.judgeMarker_frame (s : State) (st : Byte) :
    (s.judgeMarker st).rstn = s.rstn ∧ (s.judgeMarker st).straps = s.straps ∧ (s.judgeMarker st).shadow = s.shadow
      ∧ (s.judgeMarker st).active = s.active ∧ (s.judgeMarker st).memory = s.memory ∧ (s.judgeMarker st).now = s.now
      ∧ (s.judgeMarker st).pending = s.pending := by
  unfold State.judgeMarker; (repeat' split) <;> simp

@[simp] theorem State.endDirect_frame (s : State) (code : Completion) (data : List Byte) :
    (s.endDirect code data).rstn = s.rstn ∧ (s.endDirect code data).straps = s.straps
      ∧ (s.endDirect code data).ports = s.ports ∧ (s.endDirect code data).queue = s.queue
      ∧ (s.endDirect code data).reads = s.reads ∧ (s.endDirect code data).drain = s.drain
      ∧ (s.endDirect code data).control = s.control ∧ (s.endDirect code data).shadow = s.shadow
      ∧ (s.endDirect code data).active = s.active ∧ (s.endDirect code data).faults = s.faults
      ∧ (s.endDirect code data).memory = s.memory ∧ (s.endDirect code data).now = s.now
      ∧ (s.endDirect code data).pending = s.pending := by
  unfold State.endDirect; simp

@[simp] theorem State.judgeRun_frame (s : State) (st : Byte) :
    (s.judgeRun st).rstn = s.rstn ∧ (s.judgeRun st).straps = s.straps ∧ (s.judgeRun st).ports = s.ports
      ∧ (s.judgeRun st).queue = s.queue ∧ (s.judgeRun st).reads = s.reads ∧ (s.judgeRun st).drain = s.drain
      ∧ (s.judgeRun st).control = s.control ∧ (s.judgeRun st).shadow = s.shadow ∧ (s.judgeRun st).active = s.active
      ∧ (s.judgeRun st).faults = s.faults ∧ (s.judgeRun st).memory = s.memory ∧ (s.judgeRun st).now = s.now
      ∧ (s.judgeRun st).pending = s.pending := by
  unfold State.judgeRun; (try dsimp only); (repeat' split) <;> simp

/-! ### The arbiter and the end of an event -/

@[simp] theorem State.hold_frame (s : State) (op : LinkOp) :
    (s.hold op).rstn = s.rstn ∧ (s.hold op).straps = s.straps ∧ (s.hold op).ports = s.ports
      ∧ (s.hold op).queue = s.queue ∧ (s.hold op).reads = s.reads ∧ (s.hold op).drain = s.drain
      ∧ (s.hold op).control = s.control ∧ (s.hold op).shadow = s.shadow ∧ (s.hold op).active = s.active
      ∧ (s.hold op).faults = s.faults ∧ (s.hold op).maint = s.maint ∧ (s.hold op).memory = s.memory
      ∧ (s.hold op).now = s.now ∧ (s.hold op).pending = s.pending := by
  unfold State.hold; dsimp only; simp

@[simp] theorem State.grantFetch_frame (s : State) (p : Port) :
    (s.grantFetch p).rstn = s.rstn ∧ (s.grantFetch p).straps = s.straps ∧ (s.grantFetch p).ports = s.ports
      ∧ (s.grantFetch p).queue = s.queue ∧ (s.grantFetch p).drain = s.drain ∧ (s.grantFetch p).control = s.control
      ∧ (s.grantFetch p).shadow = s.shadow ∧ (s.grantFetch p).active = s.active ∧ (s.grantFetch p).faults = s.faults
      ∧ (s.grantFetch p).maint = s.maint ∧ (s.grantFetch p).memory = s.memory ∧ (s.grantFetch p).now = s.now
      ∧ (s.grantFetch p).pending = s.pending := by
  unfold State.grantFetch; (try dsimp only); (repeat' split) <;> simp

@[simp] theorem State.grantProgram_frame (s : State) (b : Buf) :
    (s.grantProgram b).rstn = s.rstn ∧ (s.grantProgram b).straps = s.straps ∧ (s.grantProgram b).ports = s.ports
      ∧ (s.grantProgram b).queue = s.queue ∧ (s.grantProgram b).reads = s.reads
      ∧ (s.grantProgram b).control = s.control ∧ (s.grantProgram b).shadow = s.shadow
      ∧ (s.grantProgram b).active = s.active ∧ (s.grantProgram b).faults = s.faults
      ∧ (s.grantProgram b).maint = s.maint ∧ (s.grantProgram b).memory = s.memory ∧ (s.grantProgram b).now = s.now
      ∧ (s.grantProgram b).pending = s.pending := by
  unfold State.grantProgram; (try dsimp only); (repeat' split) <;> simp

@[simp] theorem State.grantProbe_frame (s : State) :
    s.grantProbe.rstn = s.rstn ∧ s.grantProbe.straps = s.straps ∧ s.grantProbe.ports = s.ports
      ∧ s.grantProbe.queue = s.queue ∧ s.grantProbe.reads = s.reads ∧ s.grantProbe.drain = s.drain
      ∧ s.grantProbe.shadow = s.shadow ∧ s.grantProbe.active = s.active ∧ s.grantProbe.faults = s.faults
      ∧ s.grantProbe.maint = s.maint ∧ s.grantProbe.memory = s.memory ∧ s.grantProbe.now = s.now
      ∧ s.grantProbe.pending = s.pending := by
  unfold State.grantProbe; dsimp only; simp

@[simp] theorem State.grantMarkerRead_frame (s : State) :
    s.grantMarkerRead.rstn = s.rstn ∧ s.grantMarkerRead.straps = s.straps ∧ s.grantMarkerRead.ports = s.ports
      ∧ s.grantMarkerRead.queue = s.queue ∧ s.grantMarkerRead.reads = s.reads ∧ s.grantMarkerRead.drain = s.drain
      ∧ s.grantMarkerRead.shadow = s.shadow ∧ s.grantMarkerRead.active = s.active
      ∧ s.grantMarkerRead.faults = s.faults ∧ s.grantMarkerRead.maint = s.maint
      ∧ s.grantMarkerRead.memory = s.memory ∧ s.grantMarkerRead.now = s.now ∧ s.grantMarkerRead.pending = s.pending := by
  unfold State.grantMarkerRead; dsimp only; simp

@[simp] theorem State.takeDirect_frame (s : State) (op : LinkOp) :
    (s.takeDirect op).rstn = s.rstn ∧ (s.takeDirect op).straps = s.straps ∧ (s.takeDirect op).ports = s.ports
      ∧ (s.takeDirect op).queue = s.queue ∧ (s.takeDirect op).reads = s.reads ∧ (s.takeDirect op).drain = s.drain
      ∧ (s.takeDirect op).control = s.control ∧ (s.takeDirect op).shadow = s.shadow
      ∧ (s.takeDirect op).active = s.active ∧ (s.takeDirect op).faults = s.faults
      ∧ (s.takeDirect op).memory = s.memory ∧ (s.takeDirect op).now = s.now ∧ (s.takeDirect op).pending = s.pending := by
  unfold State.takeDirect; dsimp only; simp

@[simp] theorem State.grantDirectWrite_frame (s : State) :
    s.grantDirectWrite.rstn = s.rstn ∧ s.grantDirectWrite.straps = s.straps ∧ s.grantDirectWrite.ports = s.ports
      ∧ s.grantDirectWrite.queue = s.queue ∧ s.grantDirectWrite.reads = s.reads ∧ s.grantDirectWrite.drain = s.drain
      ∧ s.grantDirectWrite.control = s.control ∧ s.grantDirectWrite.shadow = s.shadow
      ∧ s.grantDirectWrite.active = s.active ∧ s.grantDirectWrite.faults = s.faults
      ∧ s.grantDirectWrite.memory = s.memory ∧ s.grantDirectWrite.now = s.now
      ∧ s.grantDirectWrite.pending = s.pending := by
  unfold State.grantDirectWrite; (try dsimp only); (repeat' split) <;> simp

@[simp] theorem State.grant_frame (s : State) (op : LinkOp) :
    (s.grant op).rstn = s.rstn ∧ (s.grant op).straps = s.straps ∧ (s.grant op).ports = s.ports
      ∧ (s.grant op).queue = s.queue ∧ (s.grant op).shadow = s.shadow ∧ (s.grant op).active = s.active
      ∧ (s.grant op).faults = s.faults ∧ (s.grant op).memory = s.memory ∧ (s.grant op).now = s.now
      ∧ (s.grant op).pending = s.pending := by
  unfold State.grant; (try dsimp only); (repeat' split) <;> simp

@[simp] theorem State.grantSettle_frame (s : State) (k : ReqKind) :
    (s.grantSettle k).rstn = s.rstn ∧ (s.grantSettle k).straps = s.straps ∧ (s.grantSettle k).ports = s.ports
      ∧ (s.grantSettle k).queue = s.queue ∧ (s.grantSettle k).reads = s.reads ∧ (s.grantSettle k).drain = s.drain
      ∧ (s.grantSettle k).control = s.control ∧ (s.grantSettle k).shadow = s.shadow
      ∧ (s.grantSettle k).active = s.active ∧ (s.grantSettle k).faults = s.faults
      ∧ (s.grantSettle k).maint = s.maint ∧ (s.grantSettle k).memory = s.memory ∧ (s.grantSettle k).now = s.now
      ∧ (s.grantSettle k).pending = s.pending := by
  unfold State.grantSettle; dsimp only; simp

@[simp] theorem State.decideOnce_frame (s : State) :
    s.decideOnce.rstn = s.rstn ∧ s.decideOnce.straps = s.straps ∧ s.decideOnce.ports = s.ports
      ∧ s.decideOnce.queue = s.queue ∧ s.decideOnce.shadow = s.shadow ∧ s.decideOnce.active = s.active
      ∧ s.decideOnce.faults = s.faults ∧ s.decideOnce.memory = s.memory ∧ s.decideOnce.now = s.now
      ∧ s.decideOnce.pending = s.pending := by
  unfold State.decideOnce; (repeat' split) <;> simp

@[simp] theorem State.decide_frame (s : State) :
    s.decide.rstn = s.rstn ∧ s.decide.straps = s.straps ∧ s.decide.ports = s.ports ∧ s.decide.queue = s.queue
      ∧ s.decide.shadow = s.shadow ∧ s.decide.active = s.active ∧ s.decide.faults = s.faults
      ∧ s.decide.memory = s.memory ∧ s.decide.now = s.now ∧ s.decide.pending = s.pending := by
  unfold State.decide; simp

@[simp] theorem State.endPinWait_frame (s : State) :
    s.endPinWait.rstn = s.rstn ∧ s.endPinWait.straps = s.straps ∧ s.endPinWait.ports = s.ports
      ∧ s.endPinWait.queue = s.queue ∧ s.endPinWait.reads = s.reads ∧ s.endPinWait.drain = s.drain
      ∧ s.endPinWait.control = s.control ∧ s.endPinWait.shadow = s.shadow ∧ s.endPinWait.active = s.active
      ∧ s.endPinWait.faults = s.faults ∧ s.endPinWait.maint = s.maint ∧ s.endPinWait.memory = s.memory
      ∧ s.endPinWait.now = s.now ∧ s.endPinWait.pending = s.pending := by
  unfold State.endPinWait; (try dsimp only); (repeat' split) <;> simp

@[simp] theorem State.endEvent_frame (s : State) :
    s.endEvent.rstn = s.rstn ∧ s.endEvent.straps = s.straps ∧ s.endEvent.ports = s.ports
      ∧ s.endEvent.queue = s.queue ∧ s.endEvent.shadow = s.shadow ∧ s.endEvent.active = s.active
      ∧ s.endEvent.faults = s.faults ∧ s.endEvent.memory = s.memory ∧ s.endEvent.pending = s.pending := by
  unfold State.endEvent; simp

/-! ### Queue, link and start-up events -/

@[simp] theorem State.takeRun_frame (s : State) :
    s.takeRun.rstn = s.rstn ∧ s.takeRun.straps = s.straps ∧ s.takeRun.reads = s.reads ∧ s.takeRun.link = s.link
      ∧ s.takeRun.control = s.control ∧ s.takeRun.shadow = s.shadow ∧ s.takeRun.active = s.active
      ∧ s.takeRun.maint = s.maint ∧ s.takeRun.memory = s.memory ∧ s.takeRun.now = s.now
      ∧ s.takeRun.pending = s.pending := by
  unfold State.takeRun; (try dsimp only); (repeat' split) <;> simp

@[simp] theorem State.fetchDone_frame (s : State) (p : Port) (lower upper : Byte) :
    (s.fetchDone p lower upper).rstn = s.rstn ∧ (s.fetchDone p lower upper).straps = s.straps
      ∧ (s.fetchDone p lower upper).queue = s.queue ∧ (s.fetchDone p lower upper).drain = s.drain
      ∧ (s.fetchDone p lower upper).link = s.link ∧ (s.fetchDone p lower upper).control = s.control
      ∧ (s.fetchDone p lower upper).shadow = s.shadow ∧ (s.fetchDone p lower upper).active = s.active
      ∧ (s.fetchDone p lower upper).faults = s.faults ∧ (s.fetchDone p lower upper).maint = s.maint
      ∧ (s.fetchDone p lower upper).memory = s.memory ∧ (s.fetchDone p lower upper).now = s.now
      ∧ (s.fetchDone p lower upper).pending = s.pending := by
  unfold State.fetchDone; (try dsimp only); (repeat' split) <;> simp

@[simp] theorem State.issuePageWrite_frame (s : State) :
    s.issuePageWrite.rstn = s.rstn ∧ s.issuePageWrite.straps = s.straps ∧ s.issuePageWrite.ports = s.ports
      ∧ s.issuePageWrite.queue = s.queue ∧ s.issuePageWrite.reads = s.reads ∧ s.issuePageWrite.drain = s.drain
      ∧ s.issuePageWrite.shadow = s.shadow ∧ s.issuePageWrite.active = s.active ∧ s.issuePageWrite.faults = s.faults
      ∧ s.issuePageWrite.memory = s.memory ∧ s.issuePageWrite.now = s.now ∧ s.issuePageWrite.pending = s.pending := by
  unfold State.issuePageWrite; (try dsimp only); (repeat' split) <;> simp

@[simp] theorem State.sawStatus_frame (s : State) (st : Byte) :
    (s.sawStatus st).rstn = s.rstn ∧ (s.sawStatus st).straps = s.straps ∧ (s.sawStatus st).ports = s.ports
      ∧ (s.sawStatus st).queue = s.queue ∧ (s.sawStatus st).reads = s.reads ∧ (s.sawStatus st).drain = s.drain
      ∧ (s.sawStatus st).control = s.control ∧ (s.sawStatus st).shadow = s.shadow
      ∧ (s.sawStatus st).active = s.active ∧ (s.sawStatus st).faults = s.faults ∧ (s.sawStatus st).maint = s.maint
      ∧ (s.sawStatus st).now = s.now ∧ (s.sawStatus st).pending = s.pending := by
  unfold State.sawStatus; simp

@[simp] theorem State.afterStale_frame (s : State) :
    s.afterStale.rstn = s.rstn ∧ s.afterStale.straps = s.straps ∧ s.afterStale.ports = s.ports
      ∧ s.afterStale.queue = s.queue ∧ s.afterStale.reads = s.reads ∧ s.afterStale.drain = s.drain
      ∧ s.afterStale.control = s.control ∧ s.afterStale.shadow = s.shadow ∧ s.afterStale.active = s.active
      ∧ s.afterStale.faults = s.faults ∧ s.afterStale.maint = s.maint ∧ s.afterStale.memory = s.memory
      ∧ s.afterStale.now = s.now ∧ s.afterStale.pending = s.pending := by
  unfold State.afterStale; simp

@[simp] theorem State.pollAgain_frame (s : State) :
    s.pollAgain.rstn = s.rstn ∧ s.pollAgain.straps = s.straps ∧ s.pollAgain.ports = s.ports
      ∧ s.pollAgain.queue = s.queue ∧ s.pollAgain.reads = s.reads ∧ s.pollAgain.drain = s.drain
      ∧ s.pollAgain.control = s.control ∧ s.pollAgain.shadow = s.shadow ∧ s.pollAgain.active = s.active
      ∧ s.pollAgain.faults = s.faults ∧ s.pollAgain.maint = s.maint ∧ s.pollAgain.memory = s.memory
      ∧ s.pollAgain.now = s.now ∧ s.pollAgain.pending = s.pending := by
  unfold State.pollAgain; dsimp only; simp

@[simp] theorem State.pollEnds_frame (s : State) :
    s.pollEnds.rstn = s.rstn ∧ s.pollEnds.straps = s.straps ∧ s.pollEnds.ports = s.ports
      ∧ s.pollEnds.queue = s.queue ∧ s.pollEnds.reads = s.reads ∧ s.pollEnds.drain = s.drain
      ∧ s.pollEnds.control = s.control ∧ s.pollEnds.shadow = s.shadow ∧ s.pollEnds.active = s.active
      ∧ s.pollEnds.faults = s.faults ∧ s.pollEnds.maint = s.maint ∧ s.pollEnds.memory = s.memory
      ∧ s.pollEnds.now = s.now ∧ s.pollEnds.pending = s.pending := by
  unfold State.pollEnds; dsimp only; simp

@[simp] theorem State.settled_frame (s : State) :
    s.settled.rstn = s.rstn ∧ s.settled.straps = s.straps ∧ s.settled.ports = s.ports ∧ s.settled.queue = s.queue
      ∧ s.settled.reads = s.reads ∧ s.settled.drain = s.drain ∧ s.settled.control = s.control
      ∧ s.settled.shadow = s.shadow ∧ s.settled.active = s.active ∧ s.settled.faults = s.faults
      ∧ s.settled.maint = s.maint ∧ s.settled.memory = s.memory ∧ s.settled.now = s.now
      ∧ s.settled.pending = s.pending := by
  unfold State.settled; dsimp only; simp

@[simp] theorem State.settleDone_frame (s : State) (k : ReqKind) :
    (s.settleDone k).rstn = s.rstn ∧ (s.settleDone k).straps = s.straps ∧ (s.settleDone k).drain = s.drain
      ∧ (s.settleDone k).shadow = s.shadow ∧ (s.settleDone k).active = s.active ∧ (s.settleDone k).maint = s.maint
      ∧ (s.settleDone k).memory = s.memory ∧ (s.settleDone k).now = s.now ∧ (s.settleDone k).pending = s.pending := by
  unfold State.settleDone; (try dsimp only); (repeat' split) <;> simp

@[simp] theorem State.probeQuiet_frame (s : State) :
    s.probeQuiet.rstn = s.rstn ∧ s.probeQuiet.straps = s.straps ∧ s.probeQuiet.drain = s.drain
      ∧ s.probeQuiet.shadow = s.shadow ∧ s.probeQuiet.active = s.active ∧ s.probeQuiet.maint = s.maint
      ∧ s.probeQuiet.memory = s.memory ∧ s.probeQuiet.now = s.now ∧ s.probeQuiet.pending = s.pending := by
  unfold State.probeQuiet; dsimp only; simp

@[simp] theorem State.judgeStatus_frame (s : State) (op : LinkOp) (st : Byte) :
    (s.judgeStatus op st).rstn = s.rstn ∧ (s.judgeStatus op st).straps = s.straps
      ∧ (s.judgeStatus op st).shadow = s.shadow ∧ (s.judgeStatus op st).memory = s.memory
      ∧ (s.judgeStatus op st).now = s.now ∧ (s.judgeStatus op st).pending = s.pending := by
  unfold State.judgeStatus; (repeat' split) <;> simp

@[simp] theorem State.probeSilent_frame (s : State) :
    s.probeSilent.rstn = s.rstn ∧ s.probeSilent.straps = s.straps ∧ s.probeSilent.drain = s.drain
      ∧ s.probeSilent.shadow = s.shadow ∧ s.probeSilent.active = s.active ∧ s.probeSilent.maint = s.maint
      ∧ s.probeSilent.memory = s.memory ∧ s.probeSilent.now = s.now ∧ s.probeSilent.pending = s.pending := by
  unfold State.probeSilent; dsimp only; simp

@[simp] theorem State.recordLoss_frame (s : State) (c : MarkerClass) :
    (s.recordLoss c).rstn = s.rstn ∧ (s.recordLoss c).straps = s.straps ∧ (s.recordLoss c).ports = s.ports
      ∧ (s.recordLoss c).queue = s.queue ∧ (s.recordLoss c).reads = s.reads ∧ (s.recordLoss c).drain = s.drain
      ∧ (s.recordLoss c).link = s.link ∧ (s.recordLoss c).control = s.control ∧ (s.recordLoss c).shadow = s.shadow
      ∧ (s.recordLoss c).active = s.active ∧ (s.recordLoss c).maint = s.maint ∧ (s.recordLoss c).memory = s.memory
      ∧ (s.recordLoss c).now = s.now ∧ (s.recordLoss c).pending = s.pending := by
  unfold State.recordLoss; (repeat' split) <;> simp

@[simp] theorem State.placeReport_frame (s : State) (bytes : List Byte) :
    (s.placeReport bytes).rstn = s.rstn ∧ (s.placeReport bytes).straps = s.straps
      ∧ (s.placeReport bytes).drain = s.drain ∧ (s.placeReport bytes).link = s.link
      ∧ (s.placeReport bytes).shadow = s.shadow ∧ (s.placeReport bytes).active = s.active
      ∧ (s.placeReport bytes).maint = s.maint ∧ (s.placeReport bytes).memory = s.memory
      ∧ (s.placeReport bytes).now = s.now ∧ (s.placeReport bytes).pending = s.pending := by
  unfold State.placeReport; dsimp only; simp

@[simp] theorem State.onAssertion_frame (s : State) :
    s.onAssertion.rstn = s.rstn ∧ s.onAssertion.straps = s.straps ∧ s.onAssertion.link = s.link
      ∧ s.onAssertion.shadow = s.shadow ∧ s.onAssertion.active = s.active ∧ s.onAssertion.memory = s.memory
      ∧ s.onAssertion.now = s.now ∧ s.onAssertion.pending = s.pending := by
  unfold State.onAssertion; (try dsimp only); (repeat' split) <;> simp

@[simp] theorem State.onRelease_frame (s : State) :
    s.onRelease.rstn = s.rstn ∧ s.onRelease.straps = s.straps ∧ s.onRelease.drain = s.drain
      ∧ s.onRelease.link = s.link ∧ s.onRelease.shadow = s.shadow ∧ s.onRelease.active = s.active
      ∧ s.onRelease.maint = s.maint ∧ s.onRelease.memory = s.memory ∧ s.onRelease.now = s.now
      ∧ s.onRelease.pending = s.pending := by
  unfold State.onRelease; (try dsimp only); (repeat' split) <;> simp

/-! ### The maintenance link -/

@[simp] theorem State.acceptDirect_frame (s : State) (k : LongKind) (line : BitVec 24) (flags : BitVec 32) (data : List Byte) :
    (s.acceptDirect k line flags data).rstn = s.rstn ∧ (s.acceptDirect k line flags data).straps = s.straps
      ∧ (s.acceptDirect k line flags data).ports = s.ports ∧ (s.acceptDirect k line flags data).queue = s.queue
      ∧ (s.acceptDirect k line flags data).reads = s.reads ∧ (s.acceptDirect k line flags data).drain = s.drain
      ∧ (s.acceptDirect k line flags data).link = s.link ∧ (s.acceptDirect k line flags data).control = s.control
      ∧ (s.acceptDirect k line flags data).shadow = s.shadow ∧ (s.acceptDirect k line flags data).active = s.active
      ∧ (s.acceptDirect k line flags data).faults = s.faults ∧ (s.acceptDirect k line flags data).memory = s.memory
      ∧ (s.acceptDirect k line flags data).now = s.now ∧ (s.acceptDirect k line flags data).pending = s.pending := by
  unfold State.acceptDirect; dsimp only; simp

@[simp] theorem State.acceptApply_frame (s : State) :
    s.acceptApply.rstn = s.rstn ∧ s.acceptApply.straps = s.straps ∧ s.acceptApply.drain = s.drain
      ∧ s.acceptApply.link = s.link ∧ s.acceptApply.shadow = s.shadow ∧ s.acceptApply.active = s.active
      ∧ s.acceptApply.memory = s.memory ∧ s.acceptApply.now = s.now ∧ s.acceptApply.pending = s.pending := by
  unfold State.acceptApply; dsimp only; simp

@[simp] theorem State.acceptFlush_frame (s : State) :
    s.acceptFlush.rstn = s.rstn ∧ s.acceptFlush.straps = s.straps ∧ s.acceptFlush.ports = s.ports
      ∧ s.acceptFlush.reads = s.reads ∧ s.acceptFlush.drain = s.drain ∧ s.acceptFlush.link = s.link
      ∧ s.acceptFlush.shadow = s.shadow ∧ s.acceptFlush.active = s.active ∧ s.acceptFlush.faults = s.faults
      ∧ s.acceptFlush.memory = s.memory ∧ s.acceptFlush.now = s.now ∧ s.acceptFlush.pending = s.pending := by
  unfold State.acceptFlush; dsimp only; simp

@[simp] theorem State.retryBuffer_frame (s : State) (b : Buf) :
    (s.retryBuffer b).rstn = s.rstn ∧ (s.retryBuffer b).straps = s.straps ∧ (s.retryBuffer b).ports = s.ports
      ∧ (s.retryBuffer b).queue = s.queue ∧ (s.retryBuffer b).reads = s.reads ∧ (s.retryBuffer b).link = s.link
      ∧ (s.retryBuffer b).control = s.control ∧ (s.retryBuffer b).shadow = s.shadow
      ∧ (s.retryBuffer b).active = s.active ∧ (s.retryBuffer b).faults = s.faults
      ∧ (s.retryBuffer b).maint = s.maint ∧ (s.retryBuffer b).memory = s.memory ∧ (s.retryBuffer b).now = s.now
      ∧ (s.retryBuffer b).pending = s.pending := by
  unfold State.retryBuffer; dsimp only; simp

@[simp] theorem State.releaseBuffer_frame (s : State) (b : Buf) :
    (s.releaseBuffer b).rstn = s.rstn ∧ (s.releaseBuffer b).straps = s.straps ∧ (s.releaseBuffer b).link = s.link
      ∧ (s.releaseBuffer b).shadow = s.shadow ∧ (s.releaseBuffer b).memory = s.memory
      ∧ (s.releaseBuffer b).now = s.now ∧ (s.releaseBuffer b).pending = s.pending := by
  unfold State.releaseBuffer; (try dsimp only); (repeat' split) <;> simp

end Sys2Proof.Machine
end

