-- ==== Sys2Proof/Laws/Event.lean ====
section
/-! SUPPORT. What the arbiter's decision and the end of an event do inside the blocks they touch (05 R104; log 12). -/
namespace Sys2Proof.Machine

/-! ### The control block: only the request, the marker write, the boot count and the probe busy timer move -/

/-- The fields of the control block that an arbiter decision leaves as they are. -/
structure Control.SameButGrants (c d : Control) : Prop where
  mode : d.mode = c.mode
  report : d.report = c.report
  budget : d.budget = c.budget
  stopPending : d.stopPending = c.stopPending
  resumePending : d.resumePending = c.resumePending
  fromStarting : d.fromStarting = c.fromStarting
  pfailLow : d.pfailLow = c.pfailLow
  filtered : d.filtered = c.filtered
  filterTimer : d.filterTimer = c.filterTimer
  epoch : d.epoch = c.epoch
  flushMark : d.flushMark = c.flushMark
  flushDiscard : d.flushDiscard = c.flushDiscard

theorem Control.SameButGrants.rfl' {c : Control} : c.SameButGrants c := by constructor <;> rfl

theorem Control.SameButGrants.trans {c d e : Control} (h : c.SameButGrants d) (k : d.SameButGrants e) : c.SameButGrants e := by
  obtain ⟨⟩ := h; obtain ⟨⟩ := k; constructor <;> simp_all

theorem State.startMarkerAttempt_control (s : State) : s.control.SameButGrants s.startMarkerAttempt.control := by
  constructor <;> simp [State.startMarkerAttempt]

theorem State.grantMarkerWrite_control (s : State) : s.control.SameButGrants s.grantMarkerWrite.control := by
  unfold State.grantMarkerWrite
  refine .trans ?_ (State.startMarkerAttempt_control _)
  split <;> constructor <;> simp

theorem State.grant_control (s : State) (op : LinkOp) : s.control.SameButGrants (s.grant op).control := by
  cases op with
  | markerWrite =>
    refine .trans ?_ (State.grantMarkerWrite_control _)
    constructor <;> simp
  | _ => constructor <;> simp [State.grant, State.grantProbe, State.grantMarkerRead]

theorem State.decideOnce_control (s : State) : s.control.SameButGrants s.decideOnce.control := by
  unfold State.decideOnce
  repeat' split
  · exact .rfl'
  · exact .rfl'
  · simpa using .rfl'
  · exact State.grant_control _ _

theorem State.decide_control (s : State) : s.control.SameButGrants s.decide.control :=
  .trans (State.decideOnce_control s) (State.decideOnce_control _)

theorem State.requestMarker_control (s : State) : s.control.SameButGrants s.requestMarker.control := by
  unfold State.requestMarker; split <;> constructor <;> simp

theorem State.endEvent_control (s : State) : s.control.SameButGrants s.endEvent.control := by
  unfold State.endEvent
  rw [State.tick_control]
  refine .trans ?_ (State.decide_control _)
  refine .trans ?_ (State.requestMarker_control _)
  simpa using .rfl'

@[simp] theorem State.endEvent_mode (s : State) : s.endEvent.control.mode = s.control.mode := (State.endEvent_control s).mode
@[simp] theorem State.endEvent_epoch (s : State) : s.endEvent.control.epoch = s.control.epoch := (State.endEvent_control s).epoch
@[simp] theorem State.endEvent_budget (s : State) : s.endEvent.control.budget = s.control.budget := (State.endEvent_control s).budget
@[simp] theorem State.endEvent_report (s : State) : s.endEvent.control.report = s.control.report := (State.endEvent_control s).report
@[simp] theorem State.endEvent_stopPending (s : State) : s.endEvent.control.stopPending = s.control.stopPending :=
  (State.endEvent_control s).stopPending
@[simp] theorem State.endEvent_resumePending (s : State) : s.endEvent.control.resumePending = s.control.resumePending :=
  (State.endEvent_control s).resumePending
@[simp] theorem State.endEvent_fromStarting (s : State) : s.endEvent.control.fromStarting = s.control.fromStarting :=
  (State.endEvent_control s).fromStarting
@[simp] theorem State.endEvent_pfailLow (s : State) : s.endEvent.control.pfailLow = s.control.pfailLow :=
  (State.endEvent_control s).pfailLow
@[simp] theorem State.endEvent_filtered (s : State) : s.endEvent.control.filtered = s.control.filtered :=
  (State.endEvent_control s).filtered
@[simp] theorem State.endEvent_filterTimer (s : State) : s.endEvent.control.filterTimer = s.control.filterTimer :=
  (State.endEvent_control s).filterTimer
@[simp] theorem State.endEvent_flushMark (s : State) : s.endEvent.control.flushMark = s.control.flushMark :=
  (State.endEvent_control s).flushMark
@[simp] theorem State.endEvent_flushDiscard (s : State) : s.endEvent.control.flushDiscard = s.control.flushDiscard :=
  (State.endEvent_control s).flushDiscard

@[simp] theorem State.now_endEvent (s : State) : s.endEvent.now = s.now + 1 := by simp [State.endEvent]

/-! ### The maintenance link interface: the response, the frame error count and the wait for SSn stay -/

/-- The fields of the interface that the completion of a long operation leaves as they are. -/
structure Maint.SameButSlot (m n : Maint) : Prop where
  response : n.response = m.response
  frameErrors : n.frameErrors = m.frameErrors
  awaitSsn : n.awaitSsn = m.awaitSsn

theorem Maint.SameButSlot.rfl' {m : Maint} : m.SameButSlot m := by constructor <;> rfl

theorem Maint.SameButSlot.trans {m n o : Maint} (h : m.SameButSlot n) (k : n.SameButSlot o) : m.SameButSlot o := by
  obtain ⟨⟩ := h; obtain ⟨⟩ := k; constructor <;> simp_all

theorem State.completeLong_maint (s : State) (code : Completion) (data : List Byte) :
    s.maint.SameButSlot (s.completeLong code data).maint := by
  constructor <;> rfl

theorem State.judgeFlush_maint (s : State) : s.maint.SameButSlot s.judgeFlush.maint := by
  unfold State.judgeFlush; repeat' split
  all_goals first | exact .rfl' | exact State.completeLong_maint _ _ _

theorem State.truncateFlush_maint (s : State) : s.maint.SameButSlot s.truncateFlush.maint := by
  unfold State.truncateFlush; split
  · exact State.completeLong_maint _ _ _
  · exact .rfl'

theorem State.grant_maint (s : State) (op : LinkOp) : s.maint.SameButSlot (s.grant op).maint := by
  cases op with
  | markerWrite =>
    simp only [State.grant, State.grantMarkerWrite]
    split
    · refine .trans (n := State.maint (State.truncateFlush _)) (.trans ?_ (State.truncateFlush_maint _)) (by simpa using .rfl')
      simpa using .rfl'
    · simpa using .rfl'
  | directWrite =>
    simp only [State.grant, State.grantDirectWrite]
    split <;> constructor <;> simp [State.endDirect, State.completeLong, Maint.complete, State.takeDirect]
  | _ => constructor <;> simp [State.grant, State.takeDirect]

theorem State.decideOnce_maint (s : State) : s.maint.SameButSlot s.decideOnce.maint := by
  unfold State.decideOnce
  repeat' split
  · exact .rfl'
  · exact .rfl'
  · simpa using .rfl'
  · exact State.grant_maint _ _

theorem State.endEvent_maint (s : State) : s.maint.SameButSlot s.endEvent.maint := by
  unfold State.endEvent
  rw [State.tick_maint]
  refine .trans ?_ (.trans (State.decideOnce_maint _) (State.decideOnce_maint _))
  rw [(State.requestMarker_frame _).2.2.2.2.2.2.2.2.2.2.1]
  refine .trans ?_ (State.judgeFlush_maint _)
  simpa using .rfl'

@[simp] theorem State.endEvent_response (s : State) : s.endEvent.maint.response = s.maint.response :=
  (State.endEvent_maint s).response
@[simp] theorem State.endEvent_frameErrors (s : State) : s.endEvent.maint.frameErrors = s.maint.frameErrors :=
  (State.endEvent_maint s).frameErrors
@[simp] theorem State.endEvent_awaitSsn (s : State) : s.endEvent.maint.awaitSsn = s.maint.awaitSsn :=
  (State.endEvent_maint s).awaitSsn

/-! ### The drain engine: a grant touches the FILLED buffer it goes to and nothing else -/

@[simp] theorem State.issue_holder (s : State) (op : MemOp) : (s.issue op).link.holder = s.link.holder := by
  unfold State.issue Link.issue; split <;> rfl

@[simp] theorem State.hold_holder (s : State) (op : LinkOp) : (s.hold op).link.holder = some op := rfl

@[simp] theorem State.enableOrPin_holder (s : State) : s.enableOrPin.link.holder = s.link.holder := by
  unfold State.enableOrPin; repeat' split
  all_goals simp

@[simp] theorem State.beginAttempt_holder (s : State) : s.beginAttempt.link.holder = s.link.holder := by
  unfold State.beginAttempt; split
  · simp
  · simp [Link.settleAttempt, Link.issue]; split <;> rfl

/-- The start of an attempt leaves the other buffer, the pointer and the partner as they are. -/
theorem State.startProgramAttempt_drain (s : State) (b : Buf) :
    (s.startProgramAttempt b).buf b = { s.buf b with state := .programming, attempts := (s.buf b).attempts + 1 }
      ∧ (s.startProgramAttempt b).buf b.other = s.buf b.other
      ∧ (s.startProgramAttempt b).drain.next = s.drain.next
      ∧ (s.startProgramAttempt b).drain.partner = s.drain.partner
      ∧ (s.startProgramAttempt b).link.holder = s.link.holder := by
  unfold State.startProgramAttempt
  simp [State.buf]
  cases b <;> simp [State.setBuf, Drain.setBuf, Drain.buf]

/-- What a grant does to the buffers: the buffer granted leaves FILLED, and the other buffer and the pointer stay. -/
theorem State.grantProgram_drain (s : State) (b : Buf) :
    (s.grantProgram b).buf b.other = s.buf b.other ∧ (s.grantProgram b).drain.next = s.drain.next
      ∧ (s.grantProgram b).link.holder = some (.program b) := by
  unfold State.grantProgram
  dsimp only
  split
  · have h := State.startProgramAttempt_drain
      (((s.hold (.program b)).setBuf b { s.buf b with bytes := s.preparedBytes b, retried := false }).setDrain
        { ((s.hold (.program b)).setBuf b { s.buf b with bytes := s.preparedBytes b, retried := false }).drain with
          partner := if s.isHeldPartner b then some b.other else none }) b
    refine ⟨?_, ?_, ?_⟩
    · rw [h.2.1]; cases b <;> rfl
    · rw [h.2.2.1]; cases b <;> rfl
    · rw [h.2.2.2.2]; simp
  · cases b <;> simp [State.setBuf, Drain.setBuf, State.buf, Drain.buf]

theorem State.drainRequest_eligible {s : State} {b : Buf} (h : s.drainRequest = some b) : s.drainEligible b = true := by
  simp only [State.drainRequest] at h
  generalize (if s.drain.pb1.stamp < s.drain.pb0.stamp then Buf.pb1 else Buf.pb0) = older at h
  by_cases h1 : s.drainEligible older = true
  · rw [if_pos h1] at h; exact Option.some.inj h ▸ h1
  · rw [if_neg h1] at h
    by_cases h2 : s.drainEligible older.other = true
    · rw [if_pos h2] at h; exact Option.some.inj h ▸ h2
    · rw [if_neg h2] at h; cases h

theorem State.drainEligible_filled {s : State} {b : Buf} (h : s.drainEligible b = true) : (s.buf b).state = .filled := by
  simp only [State.drainEligible, State.requests, Bool.and_eq_true, beq_iff_eq] at h
  exact h.1.1.1

/-- The request chosen is the eligible request of its kind. -/
theorem State.chosen_request {s : State} {k : ReqKind} {op : LinkOp} (h : s.chosen = some (k, op)) :
    k ∈ s.priorities ∧ s.requestOf k = some op := by
  unfold State.chosen at h
  obtain ⟨l₁, x, l₂, hl, hx, -⟩ := List.findSome?_eq_some_iff.1 h
  cases hr : s.requestOf x with
  | none => rw [hr] at hx; simp at hx
  | some op' =>
    rw [hr] at hx
    simp only [Option.map_some, Option.some.injEq, Prod.mk.injEq] at hx
    obtain ⟨rfl, rfl⟩ := hx
    exact ⟨by rw [hl]; simp, hr⟩

/-- A program that is chosen goes to a FILLED buffer. -/
theorem State.chosen_program {s : State} {k : ReqKind} {b : Buf} (h : s.chosen = some (k, .program b)) :
    s.drainEligible b = true := by
  have hr := (State.chosen_request h).2
  cases k with
  | drain =>
    simp only [State.requestOf, Option.map_eq_some_iff] at hr
    obtain ⟨b', hb, he⟩ := hr
    cases he
    exact State.drainRequest_eligible hb
  | fetch =>
    simp only [State.requestOf, Option.map_eq_some_iff] at hr
    obtain ⟨f, -, he⟩ := hr; cases he
  | control =>
    simp only [State.requestOf, Option.map_eq_some_iff] at hr
    obtain ⟨r, -, he⟩ := hr; cases r <;> cases he
  | direct =>
    simp only [State.requestOf, State.directRequest] at hr
    repeat' split at hr
    all_goals cases hr

/-- A grant of anything but a program leaves the drain engine as it is. -/
theorem State.grant_drain (s : State) (op : LinkOp) (h : ∀ b, op ≠ .program b) : (s.grant op).drain = s.drain := by
  cases op with
  | program b => exact absurd rfl (h b)
  | _ => simp [State.grant]

theorem State.decideOnce_held {s : State} {op : LinkOp} (h : s.link.holder = some op) : s.decideOnce = s := by
  simp [State.decideOnce, h]

theorem State.decide_held {s : State} {op : LinkOp} (h : s.link.holder = some op) : s.decide = s := by
  simp [State.decide, State.decideOnce_held h]

theorem State.decideOnce_drain (s : State) :
    s.decideOnce.drain.next = s.drain.next
      ∧ ∀ b, (s.buf b).state ≠ .filled → s.decideOnce.buf b = s.buf b := by
  unfold State.decideOnce
  split
  · exact ⟨rfl, fun _ _ => rfl⟩
  · split
    · exact ⟨rfl, fun _ _ => rfl⟩
    · rename_i k op hc
      split
      · simp [State.buf]
      · cases op with
        | program b =>
          have hf := State.drainEligible_filled (State.chosen_program hc)
          have hg := State.grantProgram_drain s b
          refine ⟨hg.2.1, fun c hne => ?_⟩
          by_cases hcb : c = b
          · subst hcb; exact absurd hf hne
          · have : c = b.other := by cases b <;> cases c <;> simp_all
            subst this; exact hg.1
        | _ =>
          refine ⟨by simp [State.grant], fun c _ => ?_⟩
          simp [State.buf, State.grant]

/-- A decision leaves the pointer and every buffer that is not FILLED as they are. -/
theorem State.decide_drain (s : State) :
    s.decide.drain.next = s.drain.next ∧ ∀ b, (s.buf b).state ≠ .filled → s.decide.buf b = s.buf b := by
  have h := State.decideOnce_drain s
  have k := State.decideOnce_drain s.decideOnce
  refine ⟨k.1.trans h.1, fun b hb => ?_⟩
  rw [State.decide, k.2 b (by rw [h.2 b hb]; exact hb), h.2 b hb]

@[simp] theorem State.endPinWait_holder (s : State) : s.endPinWait.link.holder = s.link.holder := by
  unfold State.endPinWait; repeat' split
  all_goals simp

theorem State.endEvent_drain (s : State) :
    s.endEvent.drain.next = s.drain.next ∧ ∀ b, (s.buf b).state ≠ .filled → s.endEvent.buf b = s.buf b := by
  unfold State.endEvent
  simp only [State.buf, State.tick_drain]
  have h := State.decide_drain s.enterHeldBack.endPinWait.judgeFlush.requestMarker
  simp only [State.buf] at h
  simpa using h

/-- The end of an event on a held link keeps the holder and the drain engine. -/
theorem State.endEvent_held {s : State} {op : LinkOp} (h : s.link.holder = some op) :
    s.endEvent.link.holder = some op ∧ s.endEvent.drain = s.drain := by
  have hh : s.enterHeldBack.endPinWait.judgeFlush.requestMarker.link.holder = some op := by simp [h]
  unfold State.endEvent
  rw [State.decide_held hh]
  simp [h]

end Sys2Proof.Machine
end

