-- ==== Sys2Proof/Laws/Views.lean ====
section
/-! SUPPORT. What the derived views of the state depend on: two states that agree there have the same view. -/
namespace Sys2Proof.Machine

theorem State.memoryBytes_congr {s t : State} (h : t.straps = s.straps) : t.memoryBytes = s.memoryBytes := by
  unfold State.memoryBytes; rw [h]

theorem State.markerPage_congr {s t : State} (h : t.straps = s.straps) : t.markerPage = s.markerPage := by
  unfold State.markerPage State.markerAddr; rw [State.memoryBytes_congr h]

theorem State.classify_congr {s t : State} (h : t.straps = s.straps) (h' : t.active = s.active) (p : Port) (w : Bool) (a : Nat) :
    t.classify p w a = s.classify p w a := by
  unfold State.classify; rw [State.markerPage_congr h, State.memoryBytes_congr h, h']

theorem State.lookup_congr {s t : State} (h : t.queue = s.queue) (h' : t.drain = s.drain) (a : Nat) : t.lookup a = s.lookup a := by
  unfold State.lookup; rw [h, h']

theorem State.fill_congr {s t : State} (h : t.active = s.active) : t.fill = s.fill := by unfold State.fill; rw [h]
theorem State.hwm_congr {s t : State} (h : t.active = s.active) : t.hwm = s.hwm := by unfold State.hwm; rw [h]
theorem State.coalesceWindow_congr {s t : State} (h : t.active = s.active) : t.coalesceWindow = s.coalesceWindow := by
  unfold State.coalesceWindow; rw [h]
theorem State.stallLimit_congr {s t : State} (h : t.active = s.active) : t.stallLimit = s.stallLimit := by
  unfold State.stallLimit; rw [h]
theorem State.retryLimit_congr {s t : State} (h : t.active = s.active) : t.retryLimit = s.retryLimit := by
  unfold State.retryLimit; rw [h]
theorem State.verify_congr {s t : State} (h : t.active = s.active) : t.verify = s.verify := by unfold State.verify; rw [h]
theorem State.programTimeout_congr {s t : State} (h : t.active = s.active) : t.programTimeout = s.programTimeout := by
  unfold State.programTimeout; rw [h]
theorem State.pinned_congr {s t : State} (h : t.reads = s.reads) (page : Nat) : t.pinned page = s.pinned page := by
  unfold State.pinned; rw [h]
theorem State.halted_congr {s t : State} (h : t.drain = s.drain) : t.halted = s.halted := by unfold State.halted; rw [h]
theorem State.drainRuns_congr {s t : State} (h : t.control.mode = s.control.mode) (h' : t.control.budget = s.control.budget) :
    t.drainRuns = s.drainRuns := by unfold State.drainRuns; rw [h, h']
theorem State.flushRemains_congr {s t : State} (h : t.queue = s.queue) (h' : t.drain = s.drain)
    (hc : t.control.flushMark = s.control.flushMark) : t.flushRemains = s.flushRemains := by
  unfold State.flushRemains State.bufJudged
  rw [h, h', hc]
  congr 2
  have : t.entryJudged = s.entryJudged := by funext e; unfold State.entryJudged; rw [h, hc]
  rw [this]

/-! ### The outputs of the two serial links: what each view answers, once -/

@[simp] theorem State.mckHigh_idle {s : State} (h : s.link.wire = none) (half : Bool) : s.mckHigh half = false := by
  simp [State.mckHigh, h]

theorem State.mdoHigh_wire {s : State} {op : MemOp} (h : s.link.wire = some op) (k : Nat) :
    s.mdoHigh k = wireBit op.sent k := by
  simp [State.mdoHigh, MemOp.mdoHigh, h]

theorem State.mdoHigh_reset {s : State} (h : s.rstn = false) (hw : s.link.wire = none) (k : Nat) : s.mdoHigh k = false := by
  simp [State.mdoHigh, h, hw]

/-- The part holds MDO low once it has sent its bytes (05 R94). -/
theorem wireBit_behind (bytes : List Byte) (k : Nat) (h : 8 * bytes.length ≤ k) : wireBit bytes k = false := by
  have : bytes.length ≤ k / 8 := by omega
  simp [wireBit, List.getElem?_eq_none this]

@[simp] theorem State.sdo_reset {s : State} (h : s.rstn = false) (ssn : SsnLevel) : s.sdo ssn = none := by
  simp [State.sdo, h]

@[simp] theorem State.sdo_high (s : State) : s.sdo .high = none := by
  unfold State.sdo; cases s.rstn <;> rfl

theorem State.sdo_frame {s : State} (h : s.rstn = true) (h' : s.maint.awaitSsn = false) (n i : Nat) :
    s.sdo (.low n i) = some (sdoByte n s.maint.response i) := by
  simp [State.sdo, h, h']

end Sys2Proof.Machine
end

