-- ==== Sys2Proof/Tests/Slice0.lean ====
section
/-! SUPPORT. Tests on small states: the smoke test of well-formedness, the bytes of frames, one step of each command with
the result that its rule gives, and a witness for the hypotheses of each statement. -/
namespace Sys2Proof.Tests
open Sys2Proof Sys2Proof.Machine

/-- RSTn high in the mode, with a quiet memory and a FREE link; the straps give a memory of 2 MiB. -/
def up (m : Mode) : State := { State.reset with rstn := true, control := { mode := m }, link := { quiet := true } }

/-- The command answers a next state of which `f` holds. -/
def gives (c : Instr) (s : State) (f : State → Bool) : Bool :=
  match exec c s with
  | .next t => f t
  | .fault _ => false
  | .refused _ => false

def readAt (a : BitVec 23) : Access := ⟨false, a, true, true, 0⟩
def writeAt (a : BitVec 23) : Access := ⟨true, a, true, true, 0x2211⟩

/-- A CLOSED or OPEN entry of the line with byte 0 valid. -/
def entry (line : Nat) (isOpen : Bool) (seq : Seq) : Entry :=
  { line := line, bytes := [(0, 0x11)], isOpen := isOpen, cls := .posted, firstSeq := seq, lastSeq := seq,
    writers := { a := true }, waiters := {}, timer := if isOpen then some 16 else none }

/-- A buffer of page 5 with bytes 0 and 2 valid. -/
def buffer (st : BufState) : PageBuffer :=
  { state := st, page := 5, bytes := [(0, 0x11), (2, 0x33)], stamp := 1, attempts := 1, firstSeq := 1, lastSeq := 2 }

def withEntries (s : State) (es : List Entry) : State := s.setQueue ⟨es, 9⟩
def onLink (s : State) (op : LinkOp) (m : MemOp) : State := s.setLink { s.link with holder := some op, wire := some m }
def atPort (s : State) (st : PortState) (acc : Access) : State :=
  s.setPort .A { state := st, access := some acc, stallTimer := some 1000,
                 waitStart := if acc.write then some 0 else none }

/-- PB0 in a program operation that holds the link, with the memory operation on the wire. -/
def programming (st : BufState) (m : MemOp) : State := onLink ((up .running).setBuf .pb0 (buffer st)) (.program .pb0) m

/-- A polled attempt of PB0. -/
def polled : State :=
  (programming .programming .readStatus).setLink
    { (programming .programming .readStatus).link with quiet := false, programTimer := some 10 }

/-- A marker write in the mode, polled. -/
def marking (m : Mode) : State := onLink (up m) .markerWrite .readStatus

/-- A fetch of port A for both lanes. -/
def fetchA (st : FetchState) : Fetch :=
  { port := .A, addr := 0, needLower := true, needUpper := true, capturedLower := none, capturedUpper := none, order := 0,
    state := st, orphaned := false }

/-- A direct request that waits in the arbiter, and a granted direct operation with its memory operation on the wire. -/
def waitingDirect (k : LongKind) : State := (up .running).setMaint { slot := k, direct := { waiting := true } }
def heldDirect (k : LongKind) (op : LinkOp) (m : MemOp) : State := onLink ((up .running).setMaint { slot := k }) op m

/-- PROBE with the memory operation on the wire and its busy timer running. -/
def probing (m : MemOp) : State :=
  (onLink (up .starting) .probe m).setControl { (up .starting).control with probeTimer := true }

/-- The level on the PFAILn pin and the filtered level, with the filter's timer running. -/
def pin (s : State) (low filtered : Bool) : State :=
  s.setControl { s.control with pfailLow := low, filtered := filtered, filterTimer := true }

/-- A FLUSH in the slot whose mark is 9. -/
def flushing (s : State) : State :=
  (s.setMaint { slot := .flush }).setControl { s.control with flushMark := 9 }

/-! ### Well-formedness: each check refuses an ill-formed term -/

theorem test_begin_needs_a_strobe :
    (Instr.hostAccessBegin .A false false 0 true true 0 true).wellFormed = false
      ∧ (Instr.hostAccessBegin .A true false 0 true true 0 true).wellFormed = true := by decide
theorem test_gap_read_is_not_empty : (Instr.gapReadCompletion []).wellFormed = false := by decide
theorem test_gap_read_lies_in_a_page :
    (Instr.gapReadCompletion (List.replicate 257 0)).wellFormed = false
      ∧ (Instr.gapReadCompletion (List.replicate 256 0)).wellFormed = true := by
  simp only [Instr.wellFormed, List.length_replicate]; decide
theorem test_verify_read_is_not_empty : (Instr.verifyReadCompletion []).wellFormed = false := by decide
theorem test_verify_read_lies_in_a_page :
    (Instr.verifyReadCompletion (List.replicate 257 0)).wellFormed = false := by
  simp only [Instr.wellFormed, List.length_replicate]; decide
theorem test_direct_read_is_a_line : (Instr.directReadCompletion (List.replicate 31 0)).wellFormed = false := by decide
theorem test_marker_read_is_a_record : (Instr.markerReadCompletion (List.replicate 17 0)).wellFormed = false := by decide
theorem test_whole_frame_is_not_cut :
    (Instr.frameCutShort [0x13, 0x01] 0).wellFormed = false ∧ (Instr.frameCutShort [0x13] 7).wellFormed = true := by decide
theorem test_no_edge_is_not_cut : (Instr.frameCutShort [] 0).wellFormed = false := by decide
theorem test_known_code_is_not_unknown :
    (Instr.unknownCommand 0x30).wellFormed = false ∧ (Instr.unknownCommand 0x99).wellFormed = true := by decide
theorem test_direct_write_carries_a_line : (Instr.directWrite 0 1 (List.replicate 31 0)).wellFormed = false := by decide

/-! ### Frames (10 R199): the bytes that the supervisor sends -/

theorem test_decode_status : decodeFrame [0x01] 0 = some .status := by decide
theorem test_decode_set_irq_mask : decodeFrame [0x13, 0x03, 0xFF] 5 = some (.setIrqMask 3) := by decide
theorem test_decode_write_shadow :
    decodeFrame [0x22, 0x01, 0x01, 0x00, 0x10, 0x02, 0x01, 0x03, 0, 0, 0, 0] 0
      = some (.writeShadow 1 0x01001002010300000000) := by decide
theorem test_decode_direct_read : decodeFrame [0x3A, 0x01, 0x02, 0x03] 0 = some (.directRead 0x010203) := by decide
theorem test_decode_direct_write :
    decodeFrame ([0x3B, 0, 0, 5, 0x03, 0, 0, 0x80] ++ List.replicate 32 0xAA) 0
      = some (.directWrite 5 0x80000003 (List.replicate 32 0xAA)) := by decide
theorem test_decode_cut : decodeFrame [0x3A, 0x01, 0x02] 7 = some (.frameCutShort [0x3A, 0x01, 0x02] 7) := by decide
theorem test_decode_unknown : decodeFrame [0x99, 0x30] 0 = some (.unknownCommand 0x99) := by decide
theorem test_table_word_spells_nothing : decodeTableWord 16 0x4711 = none := rfl

/-! ### Fields and records -/

/-- The bytes of a window item as 10 R202 lays them out: base 0x102 units, k 1, ORDERED, port B. -/
theorem test_window_item :
    itemBase 0x01010201010200000000 = 0x102 ∧ itemExponent 0x01010201010200000000 = 1
      ∧ windowClass 0x01010201010200000000 = .ordered ∧ windowPermits 0x01010201010200000000 .B = true
      ∧ windowPermits 0x01010201010200000000 .A = false := by decide
/-- 06 R124: a run is a largest set of consecutive flagged offsets. -/
theorem test_direct_runs : directRuns 0x80000016 = [(1, 2), (4, 1), (31, 1)] := by decide
/-- The worked example of chapter 10: boot 17, TRUNCATED, 3 lines at risk, first 4970, last 5000, epoch 3. -/
theorem test_marker_bytes :
    MarkerRecord.encode { state := .truncated, bootCount := 17, atRisk := 3, firstSeq := 4970, lastSeq := 5000, epoch := 3 }
      = [0xA5, 0x5A, 0xC3, 0x3C, 0x03, 0x00, 0x11, 0x03, 0x00, 0x13, 0x6A, 0x00, 0x13, 0x88, 0x03, 0xD0] := by decide
theorem test_blank_memory_is_blank : decodeMarker (List.replicate 16 0xFF) = none := by decide

/-! ### One step of each command -/

/-- 01 R12, R13: a POSTED write in RUNNING is posted with number 1 and completes. -/
theorem test_begin_posts_a_write :
    gives (.hostAccessBegin .A true false 0 true true 0x2211 true) (up .running) (fun t =>
      (t.port .A).state == .ending && !t.berrLow .A && t.queue.counter == 1
        && t.queue.entries.map (·.bytes) == [[(0, 0x11), (1, 0x22)]]) = true := by decide
/-- 01 R11, R12: a begin in FAILED ends with an error and the fill value. -/
theorem test_begin_in_failed_gives_fill :
    gives (.hostAccessBegin .B false true 5 true true 0 true) (up .failed) (fun t =>
      t.berrLow .B && (t.port .B).dataOut == some 0xFFFF && t.faults.list.isEmpty) = true := by decide
theorem test_end_frees_the_port :
    gives (.hostAccessEnd .A) (atPort (up .running) .ending (readAt 0)) (fun t => (t.port .A).state == .idle) = true := by decide
/-- 01 R5, 10 R203: a withdrawn wait for a slot leaves IDLE and detail 0x82. -/
theorem test_withdrawal_is_recorded :
    gives (.withdrawal .A) (atPort (up .running) .slotWait (writeAt 3)) (fun t =>
      (t.port .A).state == .idle && t.faults.list.map (·.detail) == [0x82] && t.faults.counters.stallExpiries == 1
        && t.faults.list.map (·.address) == [some 6]) = true := by decide
/-- 01 R18: a THROUGH write that expires stays retained. -/
theorem test_expiry_of_a_through_wait :
    gives (.stallTimerExpiry .A) (atPort (up .running) .throughWait (writeAt 3)) (fun t =>
      t.berrLow .A && t.faults.list.map (·.detail) == [4] && t.faults.list.map (·.retained) == [some true]) = true := by decide
theorem test_window_expiry_closes :
    gives (.windowTimerExpiry 5) (withEntries (up .running) [entry 4 true 1, entry 5 true 2]) (fun t =>
      t.queue.entries.map (·.isOpen) == [true, false]) = true := by decide
/-- 02 R43, 04 R71: the run stops at the OPEN entry; both of its lines are of page 0. -/
theorem test_take_moves_the_run :
    gives .takeRun (withEntries (up .running) [entry 0 false 8, entry 1 false 9, entry 2 true 9]) (fun t =>
      t.queue.entries.length == 1 && (t.buf .pb0).bytes == [(0, 0x11), (32, 0x11)] && t.drain.next == .pb1) = true := by decide
theorem test_take_waits_for_a_closed_head :
    gives .takeRun (withEntries (up .running) [entry 0 true 9]) (fun t => t.queue.entries.length == 1) = true := by decide
theorem test_slot_arbiter_serves :
    gives .slotArbiterServe (atPort (up .running) .slotWait (writeAt 3)) (fun t =>
      (t.port .A).state == .ending && t.queue.entries.length == 1) = true := by decide
/-- 01 R16: into PF_DRAIN a pending write ends with an error, counted and not recorded. -/
theorem test_mode_change_refuses_a_pending_write :
    gives .portModeChange (atPort (up .pfDrain) .slotWait (writeAt 3)) (fun t =>
      t.berrLow .A && t.faults.counters.pfRefused == 1 && t.faults.list.isEmpty) = true := by decide
theorem test_held_back_fetch_enters :
    gives .heldBackFetchEntry ((up .running).setReads ⟨[], some (fetchA .waiting)⟩) (fun t =>
      t.reads.heldBack.isNone && t.reads.fetches.length == 1) = true := by decide
/-- 05 R105: in RUNNING below the watermark a fetch goes before a drain request. -/
theorem test_fetch_goes_first :
    gives .arbiterDecision (((up .running).setBuf .pb0 (buffer .filled)).setReads ⟨[fetchA .waiting], none⟩) (fun t =>
      t.link.holder == some (.fetch .A) && t.link.wire == some (.readData 0 2)) = true := by decide
/-- 05 R101: the same on an UNSETTLED memory is a SETTLE. -/
theorem test_settle_comes_first :
    gives .arbiterDecision (((up .running).setLink {}).setReads ⟨[fetchA .waiting], none⟩) (fun t =>
      t.link.holder == some (.settle .fetch) && t.link.wire == some .readStatus && t.link.settleTimer) = true := by decide
/-- 03 R54: the captured lower lane keeps its byte and the upper one takes the memory's. -/
theorem test_fetch_completion_keeps_a_captured_lane :
    gives (.fetchCompletion 0xAA 0xBB)
      ((onLink (atPort (up .running) .fetchWait (readAt 0)) (.fetch .A) (.readData 0 2)).setReads
        ⟨[{ fetchA .onLink with needLower := false, capturedLower := some 0x77 }], none⟩)
      (fun t => (t.port .A).dataOut == some 0xBB77 && t.reads.fetches.isEmpty && t.link.holder.isNone) = true := by decide
theorem test_gap_read_fills_the_hole :
    gives (.gapReadCompletion [0x99]) (programming .gapRead (.readData 1281 1)) (fun t =>
      (t.buf .pb0).spanBytes == [0x11, 0x99, 0x33] && t.link.wire == some .writeEnable
        && (t.buf .pb0).attempts == 2) = true := by decide
/-- 04 R73: the page write of page 5 starts at its first valid byte, address 1280. -/
theorem test_write_enable_issues_the_page_write :
    gives .writeEnableCompletion ((programming .programming .writeEnable).setBuf .pb0
        { buffer .programming with bytes := [(2, 0x33), (3, 0x44)] }) (fun t =>
      t.link.wire == some (.pageWrite 1282 [0x33, 0x44])) = true := by decide
theorem test_page_write_unsettles :
    gives .pageWriteCompletion (programming .programming (.pageWrite 1280 [1])) (fun t =>
      !t.link.quiet && t.link.pollWait && t.link.programTimer == some 10) = true := by decide
theorem test_poll_interval :
    gives .pollIntervalExpiry ((up .running).setLink { holder := some (.program .pb0), pollWait := true }) (fun t =>
      t.link.wire == some .readStatus && !t.link.pollWait) = true := by decide
/-- 04 R79, R83: WRITE_FAIL is a failed attempt, and below the limit of 3 another starts. -/
theorem test_write_fail_tries_again :
    gives (.readStatusCompletion 0x20) polled (fun t =>
      t.faults.counters.programRetries == 1 && (t.buf .pb0).attempts == 2 && (t.buf .pb0).failure == some .statusFail
        && t.link.wire == some .writeEnable) = true := by decide
/-- 04 R78: verify is on at cold reset, so the span is read back. -/
theorem test_good_status_verifies :
    gives (.readStatusCompletion 0x00) polled (fun t =>
      (t.buf .pb0).state == .verifying && t.link.wire == some (.readData 1280 3) && t.link.quiet) = true := by decide
theorem test_verify_match_frees_the_buffer :
    gives (.verifyReadCompletion [0x11, 0, 0x33]) (programming .verifying (.readData 1280 3)) (fun t =>
      (t.buf .pb0).state == .free && t.faults.counters.pageWrites == 1 && t.link.holder.isNone) = true := by decide
/-- 04 R83, R84: at the limit a mismatch leaves HELD with detail 3 attempts, reason code 1. -/
theorem test_verify_mismatch_at_the_limit :
    gives (.verifyReadCompletion [0x11, 1, 0x33]) ((programming .verifying (.readData 1280 3)).setBuf .pb0
        { buffer .verifying with attempts := 3 }) (fun t =>
      (t.buf .pb0).state == .held && t.faults.list.map (·.detail) == [0x0B] && t.faults.list.map (·.page) == [some 5]) = true := by
  decide
theorem test_through_outcome :
    gives (.throughWaiterOutcome .A false) (atPort (up .running) .throughWait (writeAt 3)) (fun t => t.berrLow .A) = true := by
  decide
theorem test_program_timer_leaves_the_status_behind :
    gives .programTimerExpiry polled (fun t =>
      t.link.stale && t.link.wire == some .readStatus && (t.buf .pb0).failure == some .timeout && t.link.settling) = true := by
  decide
theorem test_settle_limit_keeps_unsettled :
    gives .settleLimitExpiry ((up .running).setLink { holder := some (.settle .fetch), pollWait := true, settleTimer := true })
      (fun t => t.link.holder.isNone && !t.link.quiet) = true := by decide
theorem test_pin_wait_ends :
    gives .pinWaitEnd (((up .running).setBuf .pb0 (buffer .programming)).setLink
        { holder := some (.program .pb0), pinWait := true, quiet := true }) (fun t =>
      t.link.wire == some .writeEnable && !t.link.pinWait) = true := by decide
theorem test_direct_wait_limit :
    gives .directWaitLimitExpiry (waitingDirect .directId) (fun t =>
      t.maint.ready && t.maint.result == some ⟨.directId, .timedOut, []⟩ && t.maint.slot == .idle) = true := by decide
theorem test_direct_id_completes :
    gives (.directIdCompletion 1 2 3) (heldDirect .directId .directId .readId) (fun t =>
      t.maint.result == some ⟨.directId, .ok, [1, 2, 3]⟩ && t.link.holder.isNone) = true := by decide
/-- 05 R100: the byte is handed on unchanged, and its BUSY 0 makes the condition QUIET. -/
theorem test_direct_status_completes :
    gives (.directStatusCompletion 0x22) ((heldDirect .directStatus .directStatus .readStatus).setLink
        { holder := some .directStatus, wire := some .readStatus }) (fun t =>
      t.maint.result == some ⟨.directStatus, .ok, [0x22]⟩ && t.link.quiet) = true := by decide
theorem test_direct_read_completes :
    gives (.directReadCompletion (List.replicate 32 7)) (heldDirect .directRead .directRead (.readData 0 32)) (fun t =>
      t.maint.result == some ⟨.directRead, .ok, List.replicate 32 7⟩) = true := by decide
/-- 08 R152, R158: three equal bytes 0xFF are no answer; STARTUP_FAILED with reason 0 is recorded. -/
theorem test_probe_without_an_answer :
    gives (.probeReadIdCompletion 0xFF 0xFF 0xFF) (onLink (up .starting) .probe .readId) (fun t =>
      t.control.mode == .failed && t.faults.list.map (·.kind) == [.startupFailed] && t.faults.list.map (·.detail) == [0]) = true := by
  decide
theorem test_probe_with_an_answer :
    gives (.probeReadIdCompletion 0xFF 0xFF 0xFE) (onLink (up .starting) .probe .readId) (fun t =>
      t.control.mode == .starting && t.link.wire == some .readStatus) = true := by decide
theorem test_probe_busy_timer :
    gives .probeBusyTimerExpiry (probing .readStatus) (fun t =>
      t.control.mode == .failed && t.faults.list.map (·.detail) == [1]) = true := by decide
/-- 08 R154: a RUNNING record is UNCLEAN, which is recorded with classification code 4. -/
theorem test_marker_read_unclean :
    gives (.markerReadCompletion (MarkerRecord.encode { bootCount := 16 })) (onLink (up .starting) .markerRead (.readData 0x1FFF00 16))
      (fun t => t.control.report.previous == .unclean && t.faults.list.map (·.detail) == [4]
        && t.link.holder == some .markerWrite && t.control.bootCount == 17) = true := by decide
theorem test_pfailn_fall_starts_the_filter :
    gives .pfailnFall (up .running) (fun t => t.control.filterTimer && t.control.pfailLow && !t.control.filtered) = true := by decide
theorem test_pfailn_rise_stops_the_filter :
    gives .pfailnRise (pin (up .running) true false) (fun t => !t.control.filterTimer && !t.control.pfailLow) = true := by decide
/-- 08 R161, R164 and R166: with nothing to drain the marker write is granted in the same event. -/
theorem test_assertion_enters_pf_drain :
    gives .filteredAssertion (pin (up .running) true false) (fun t =>
      t.control.mode == .pfDrain && t.control.budget == 8 && t.link.holder == some .markerWrite
        && t.control.marker.record.state == .clean) = true := by decide
theorem test_release_in_pf_done_resumes :
    gives .filteredRelease (pin (up .pfDone) false true) (fun t =>
      t.control.mode == .resuming && t.link.holder == some .markerWrite) = true := by decide
theorem test_reset_falls :
    gives .rstnFall (withEntries (up .running) [entry 0 true 9]) (fun t =>
      !t.rstn && t.queue.entries.isEmpty && t.control.mode == .starting) = true := by decide
/-- 01 R6, 11 R206: 16 MiB by both straps; a port with strobes active waits in ENDING. -/
theorem test_reset_rises :
    gives (.rstnRise true true true true false false) State.reset (fun t =>
      t.memoryBytes == 16777216 && (t.port .A).state == .ending && (t.port .B).state == .idle
        && windowClass t.active.w0 == .through && t.link.holder == some .probe && t.link.wire == some .readId) = true := by
  decide
theorem test_cut_frame_counts :
    gives (.frameCutShort [0x13] 7) (up .running) (fun t => t.maint.frameErrors == 1) = true := by decide
theorem test_unknown_answers :
    gives (.unknownCommand 0x99) (up .running) (fun t => t.maint.response == [0x06]) = true := by decide
/-- 10 R201: mode 1, both counts 2 and 1, PB1 HELD at page 5, the slot FLUSH, budget 0. -/
theorem test_status_record :
    gives .status (((withEntries (up .running) [entry 0 false 8, entry 1 true 9]).setBuf .pb1 (buffer .held)).setMaint
        { slot := .flush }) (fun t =>
      t.maint.response == [0x00, 1, 0, 2, 1, 0x50, 0, 0, 0, 5, 0x20, 0, 0, 0, 0, 0]) = true := by decide
theorem test_result_is_read_once :
    gives .result ((up .running).setMaint { ready := true, result := some ⟨.flush, .truncated, [0, 0, 9, 2]⟩ }) (fun t =>
      t.maint.response == [0x00, 2, 7, 0, 0, 9, 2] ++ List.replicate 28 0 && !t.maint.ready) = true := by decide
theorem test_marker_report :
    gives .readMarkerReport ((up .running).setControl
        { report := { previous := .unclean, bootCount := 0x1234, firstSeq := 5, epoch := 7 } })
      (fun t => t.maint.response == [0x00, 4, 0x12, 0x34, 0, 0, 0, 5, 0, 0, 0, 7]) = true := by decide
/-- 10 R203: READ_REFUSED, port B with an address only, detail 1. -/
theorem test_read_fault :
    gives .readFault ((up .running).setFaults
        { list := [{ kind := .readRefused, source := .portB, epoch := 3, address := some 0x102030, detail := 1 }] }) (fun t =>
      t.maint.response == [0x00, 2, 0x11, 0, 3, 0x10, 0x20, 0x30, 0, 0, 0, 0, 0, 1, 0, 0] && t.faults.list.isEmpty) = true := by
  decide
theorem test_read_counters :
    gives .readCounters ((up .running).setFaults { counters := { merges := 0x01020304, pfRefused := 9 } }) (fun t =>
      t.maint.response == [0x00, 0, 0, 0, 0, 1, 2, 3, 4] ++ List.replicate 15 0 ++ [9]) = true := by decide
theorem test_clear_counters :
    gives .clearCounters (((up .running).setFaults { counters := { merges := 7 } }).setMaint { frameErrors := 4 }) (fun t =>
      t.faults.counters == {} && t.maint.frameErrors == 0) = true := by decide
theorem test_irq_mask_ignores_other_bits :
    gives (.setIrqMask 0xFE) (up .running) (fun t => !t.faults.faultEnable && t.faults.doneEnable) = true := by decide
/-- 07 R129: the globals after cold reset. -/
theorem test_read_active :
    gives (.readActive 8) (up .running) (fun t =>
      t.maint.response == [0x00, 0, 16, 16, 3, 10, 3, 1, 8, 0xFF, 0xFF]) = true := by decide
/-- 10 R202: the default window 0 of 2 MiB has k 9, class POSTED and both ports. -/
theorem test_read_shadow :
    gives (.readShadow 0) (up .running) (fun t => t.maint.response == [0x00, 1, 0, 0, 9, 0, 3, 0, 0, 0, 0]) = true := by decide
theorem test_write_shadow :
    gives (.writeShadow 1 5) (up .running) (fun t => t.shadow.w1 == 5 && t.shadow.w0 == t.active.w0) = true := by decide
theorem test_revert_shadow :
    gives .revertShadow ((up .running).setShadow { State.reset.shadow with w1 := 5 }) (fun t => t.shadow == t.active) = true := by
  decide
theorem test_apply_names_the_bad_item :
    gives .apply ((up .running).setShadow { State.reset.shadow with w7 := windowItem true 1 1 0 3 }) (fun t =>
      t.maint.response == [0x05, 7] && t.control.mode == .running) = true := by decide
theorem test_apply_completes :
    gives .applyCompletion ((up .applying).setMaint { slot := .apply }) (fun t =>
      t.control.epoch == 1 && t.control.mode == .running && t.maint.result == some ⟨.apply, .ok, [1]⟩) = true := by decide
/-- 07 R145: with nothing retained a FLUSH completes in its own event, with the mark and no line. -/
theorem test_flush_of_nothing :
    gives .flush (withEntries (up .running) []) (fun t =>
      t.maint.response == [0x00] && t.maint.ready && t.maint.result == some ⟨.flush, .ok, [0, 0, 9, 0]⟩) = true := by decide
theorem test_flush_is_blocked_by_held :
    gives .flushCompletion (flushing (((up .running).setQueue ⟨[], 9⟩).setBuf .pb0 (buffer .held))) (fun t =>
      t.maint.result == some ⟨.flush, .blockedHeld, [0, 0, 9, 1]⟩) = true := by decide
theorem test_direct_id_is_granted :
    gives .directId (up .running) (fun t => t.link.wire == some .readId && t.maint.slot == .directId) = true := by decide
theorem test_direct_status_is_refused_in_pf_done :
    gives .directStatus (up .pfDone) (fun t => t.maint.response == [0x03] && t.link.wire.isNone) = true := by decide
/-- 06 R118: 2 MiB hold the lines 0 to 65,535. -/
theorem test_direct_read_line_limit :
    gives (.directRead 65536) (up .running) (fun t => t.maint.response == [0x05]) = true
      ∧ gives (.directRead 65535) (up .running) (fun t => t.link.wire == some (.readData 0x1FFFE0 32)) = true := by decide
/-- 06 R118: the marker page's first line is PROTECTED. -/
theorem test_direct_write_is_protected :
    gives (.directWrite 65528 1 (List.replicate 32 0)) (up .running) (fun t => t.maint.response == [0x07]) = true := by decide
theorem test_retry_held :
    gives (.retryHeld 1) ((up .pfDone).setBuf .pb1 { buffer .held with attempts := 3, failure := some .timeout }) (fun t =>
      (t.buf .pb1).state == .filled && (t.buf .pb1).attempts == 0 && t.maint.response == [0x00]) = true := by decide
theorem test_release_held :
    gives (.releaseHeld 0) ((up .running).setBuf .pb0 (buffer .held)) (fun t =>
      (t.buf .pb0).state == .free && t.maint.response == [0x00, 1] && t.faults.list.map (·.kind) == [.heldReleased]) = true := by
  decide
theorem test_reprobe :
    gives .reprobe (up .failed) (fun t => t.control.mode == .starting && t.link.holder == some .probe) = true := by decide
theorem test_ssn_rise :
    gives .ssnRiseAfterReset ((up .starting).setMaint { awaitSsn := true }) (fun t => t.takesFrames) = true := by decide

/-! ### Witnesses: concrete states that meet the hypotheses of each statement, clause by clause -/

/-- The state on another configuration, and the reset state. -/
def active (s : State) (c : ConfigSet) : State := s.setActive c
/-- Window 0 is READ_ONLY for port A over the first 4 KiB, window 1 the default one. -/
def twoWindows : State :=
  active (up .running) { State.reset.active with w0 := windowItem true 0 0 3 1, w1 := State.reset.active.w0 }
/-- The default window 0 of class THROUGH. -/
def throughMode (m : Mode) : State := active (up m) (ConfigSet.coldReset ⟨false, false, true⟩)
/-- A queue of CLOSED entries of line 7. -/
def filledTo (n : Nat) : State := withEntries (up .running) (List.replicate n (entry 7 false 9))
/-- A port that waits, beside an entry and a fetch of its own. -/
def waitingAt (st : PortState) (acc : Access) : State := atPort (up .running) st acc

theorem witness_StepRunsFrontCommand : State.reset.pending = [] := rfl

theorem witness_NothingMovesInReset :
    State.reset.rstn = false ∧ State.reset.control.pfailLow = false
      ∧ (pin State.reset true false).rstn = false ∧ (pin State.reset true false).control.pfailLow = true
      ∧ Instr.status ≠ .pfailnFall ∧ Instr.status ≠ .pfailnRise
      ∧ ∀ a b d e f g, Instr.status ≠ .rstnRise a b d e f g :=
  ⟨rfl, rfl, rfl, rfl, nofun, nofun, nofun⟩

theorem witness_EndOfEventFrame :
    ((up .running).buf .pb1).state ≠ .filled ∧ polled.link.holder = some (.program .pb0) := by decide

theorem witness_NoLaneAccessCompletes :
    (up .running).SeesBegin .A false true true ∧ (up .failed).SeesBegin .B true false true :=
  ⟨⟨rfl, rfl, rfl, rfl⟩, ⟨rfl, rfl, rfl, rfl⟩⟩

theorem witness_AccessHeldOrRefusedByMode :
    ((up .starting).SeesBegin .A false true true ∧ (true || false) = true ∧ (up .starting).control.mode = .starting)
    ∧ ((up .applying).SeesBegin .A true true true ∧ (up .applying).control.mode = .applying)
    ∧ ((up .pfDrain).SeesBegin .A true false true ∧ (up .pfDrain).control.mode.PowerFail)
    ∧ ((up .pfDone).SeesBegin .A true false true ∧ (up .pfDone).control.mode.PowerFail)
    ∧ ((up .resuming).SeesBegin .B true false true ∧ (up .resuming).control.mode.PowerFail)
    ∧ (up .failed).SeesBegin .B false true true ∧ (up .failed).control.mode = .failed :=
  ⟨⟨⟨rfl, rfl, rfl, rfl⟩, rfl, rfl⟩, ⟨⟨rfl, rfl, rfl, rfl⟩, rfl⟩, ⟨⟨rfl, rfl, rfl, rfl⟩, .inl rfl⟩,
    ⟨⟨rfl, rfl, rfl, rfl⟩, .inr (.inl rfl)⟩, ⟨⟨rfl, rfl, rfl, rfl⟩, .inr (.inr rfl)⟩, ⟨rfl, rfl, rfl, rfl⟩, rfl⟩

/-- The addresses at which the clauses meet: the marker page from 0x1FFF00 to 0x1FFFFF, 0x200000 above the memory, and the
windows' edge at 0x1000. -/
theorem witness_ClassificationOrder :
    (pageOf 0x1FFF00 = (up .running).markerPage ∧ pageOf 0x1FFFFF = (up .running).markerPage)
    ∧ (pageOf 0x200000 ≠ (up .running).markerPage ∧ (up .running).memoryBytes ≤ 0x200000)
    ∧ (pageOf 0x1FFEFF ≠ (up .running).markerPage ∧ 0x1FFEFF < (up .running).memoryBytes
      ∧ ∀ it ∈ (active (up .running) { State.reset.active with w0 := disabledWindow }).active.windows,
          windowMatches it 0x1FFEFF = false)
    ∧ (lineOf 32 = lineOf 63 ∧ (up .running).classify .A true 32 = .classed .posted
      ∧ (up .running).classify .B false 63 = .classed .posted)
    ∧ (twoWindows.active.windows[0]? = some (windowItem true 0 0 3 1) ∧ windowMatches (windowItem true 0 0 3 1) 0xFFF = true
      ∧ windowPermits (windowItem true 0 0 3 1) .B = false ∧ windowPermits (windowItem true 0 0 3 1) .A = true
      ∧ windowClass (windowItem true 0 0 3 1) = .readOnly ∧ pageOf 0xFFF ≠ twoWindows.markerPage)
    ∧ (twoWindows.active.windows[1]? = some State.reset.active.w0 ∧ windowMatches State.reset.active.w0 0x1000 = true
      ∧ windowMatches (windowItem true 0 0 3 1) 0x1000 = false ∧ windowPermits State.reset.active.w0 .B = true
      ∧ windowClass State.reset.active.w0 ≠ .readOnly) :=
  ⟨by decide, by decide, ⟨by decide, by decide, fun it h => by
      rw [List.eq_of_mem_replicate (n := 8) (a := disabledWindow) h]
      rfl⟩, by decide, by decide, by decide⟩

theorem witness_RefusedAccessRecordsFault :
    ((up .running).SeesBegin .A true false true ∧ (up .running).classify .A true (evenAddr 0xFFF80) = .refused .markerPage)
    ∧ ((up .pfDone).SeesBegin .B false true true ∧ (up .pfDone).control.mode.ReadsAtOnce
      ∧ (up .pfDone).classify .B false (evenAddr 0x100000) = .refused .unmapped)
    ∧ (twoWindows.SeesBegin .A true true true ∧ twoWindows.control.mode = .running
      ∧ twoWindows.classify .A true (evenAddr 0x7FF) = .refused .readOnly)
    ∧ twoWindows.SeesBegin .B false true true ∧ twoWindows.classify .B false (evenAddr 0x7FF) = .refused .notPermitted :=
  ⟨⟨⟨rfl, rfl, rfl, rfl⟩, by decide⟩, ⟨⟨rfl, rfl, rfl, rfl⟩, .inr (.inr (.inr (.inl rfl))), by decide⟩,
    ⟨⟨rfl, rfl, rfl, rfl⟩, rfl, by decide⟩, ⟨rfl, rfl, rfl, rfl⟩, by decide⟩

/-- 23 entries leave a slot and 24 leave none. -/
theorem witness_OfferedWriteGetsAnswer :
    ((filledTo 24).SeesBegin .A true false true ∧ (filledTo 24).classify .A true 0 = .classed .posted
      ∧ ((filledTo 24).queue.offer ((writeAt 0).offer .A .posted) 16 16).1 = .noSlot)
    ∧ ((filledTo 23).SeesBegin .A true false true
      ∧ ((filledTo 23).queue.offer ((writeAt 0).offer .A .posted) 16 16).1 = .allocated)
    ∧ ((withEntries (up .running) [entry 0 true 9]).SeesBegin .B true true true
      ∧ ((withEntries (up .running) [entry 0 true 9]).queue.offer ((writeAt 0).offer .B .posted) 16 16).1 = .merged)
    ∧ ((throughMode .running).SeesBegin .A true false true ∧ (throughMode .running).classify .A true 0 = .classed .through
      ∧ ((throughMode .running).queue.offer ((writeAt 0).offer .A .through) 16 16).1 = .allocated) :=
  ⟨⟨⟨rfl, rfl, rfl, rfl⟩, by decide⟩, ⟨⟨rfl, rfl, rfl, rfl⟩, by decide⟩, ⟨⟨rfl, rfl, rfl, rfl⟩, by decide⟩,
    ⟨rfl, rfl, rfl, rfl⟩, by decide⟩

/-- A halfword of which the queue holds byte 0: a byte read completes and a halfword read fetches, or is held back. -/
theorem witness_AcceptedReadIsLookedUp :
    ((withEntries (up .running) [entry 0 false 9]).SeesBegin .A false true true
      ∧ (withEntries (up .running) [entry 0 false 9]).control.mode.ReadsAtOnce
      ∧ (withEntries (up .running) [entry 0 false 9]).classify .A false 0 = .classed .posted
      ∧ (withEntries (up .running) [entry 0 false 9]).lookup 0 = some 0x11
      ∧ (withEntries (up .running) [entry 0 false 9]).lookup 1 = none)
    ∧ ((up .resuming).SeesBegin .A false true true ∧ (up .resuming).control.mode.ReadsAtOnce
      ∧ (up .resuming).classify .A false 0 = .classed .posted
      ∧ (((up .resuming).setReads ⟨[{ fetchA .onLink with orphaned := true }], none⟩).reads.fetches.any
          fun g => g.port == Port.A) = true) :=
  ⟨⟨⟨rfl, rfl, rfl, rfl⟩, .inl rfl, by decide, by decide, by decide⟩,
    ⟨rfl, rfl, rfl, rfl⟩, .inr (.inr (.inr (.inr rfl))), by decide, by decide⟩

theorem witness_AccessEndFreesPort :
    (atPort (up .running) .ending (readAt 0)).rstn = true
      ∧ ((atPort (up .running) .ending (readAt 0)).port .A).state = .ending := by decide

theorem witness_WaitEndsByExpiryOrWithdrawal :
    ((waitingAt .modeStall (readAt 0)).rstn = true ∧ ((waitingAt .modeStall (readAt 0)).port .A).access = some (readAt 0)
      ∧ ((waitingAt .modeStall (readAt 0)).port .A).state = .modeStall
      ∧ ((waitingAt .modeStall (readAt 0)).port .A).stallTimer.isSome = true)
    ∧ ((waitingAt .modeStall (writeAt 0)).port .A).state = .modeStall
    ∧ ((waitingAt .slotWait (writeAt 0)).port .A).state = .slotWait
    ∧ ((waitingAt .fetchWait (readAt 0)).port .A).state = .fetchWait
    ∧ ((waitingAt .throughWait (writeAt 0)).port .A).state = .throughWait
    ∧ (ReadService.mk [fetchA .waiting] (some (fetchA .waiting))).heldBack = some (fetchA .waiting)
    ∧ (fetchA .onLink ∈ (ReadService.mk [fetchA .onLink] none).fetches ∧ (fetchA .onLink).state = .onLink
      ∧ ∀ f, (ReadService.mk [fetchA .onLink] none).heldBack = some f → f.port ≠ .A) :=
  ⟨by decide, rfl, rfl, rfl, rfl, rfl, by decide, rfl, nofun⟩

theorem witness_ModeChangeActsOnWaits :
    ((atPort (up .failed) .modeStall (readAt 0)).control.mode = .failed
      ∧ ((atPort (up .failed) .modeStall (readAt 0)).port .A).stalledRead = true)
    ∧ ((atPort (up .pfDrain) .slotWait (writeAt 0)).control.mode = .pfDrain
      ∧ ((atPort (up .pfDrain) .slotWait (writeAt 0)).port .A).pendingWrite = true)
    ∧ (((atPort (up .running) .modeStall (readAt 0)).port .B).state = .idle
      ∧ ((atPort (up .running) .modeStall (readAt 0)).port .A).stalledRead = true
      ∧ (atPort (up .running) .modeStall (readAt 0)).control.mode = .running)
    ∧ ((atPort (up .pfDone) .modeStall (readAt 0)).control.mode = .pfDone
      ∧ ((atPort (up .pfDone) .modeStall (readAt 0)).port .A).stalledRead = true)
    ∧ ((atPort (up .running) .modeStall (writeAt 0)).port .A).state = .modeStall
    ∧ ((atPort (up .running) .modeStall (writeAt 0)).port .A).writes = true := by decide

/-- An ORDERED write merges only into the youngest entry; 23 entries leave a slot and 24 none. -/
theorem witness_AcceptanceAnswers :
    (∃ e ∈ [entry 0 true 1, entry 1 true 2], e.isOpen = true ∧ e.line = 0)
    ∧ ((∀ e ∈ List.replicate 23 (entry 7 false 9), e.line = 7 → e.isOpen = false)
      ∧ (List.replicate 23 (entry 7 false 9)).length < 24 ∧ ¬ (List.replicate 24 (entry 7 false 9)).length < 24)
    ∧ (∀ e, [entry 0 true 1, entry 1 true 2].getLast? = some e → e.isOpen = true ∧ e.line = 1)
    ∧ (∀ e, [entry 0 true 1, entry 1 true 2].getLast? = some e → e.line = 0 → e.isOpen = false)
    ∧ ((filledTo 24).queue.offer ((writeAt 0).offer .A .ordered) 16 16).1 = .noSlot
    ∧ ((filledTo 23).queue.offer ((writeAt 0).offer .A .through) 16 16).1 ≠ .noSlot :=
  ⟨⟨entry 0 true 1, by decide, rfl, rfl⟩, by decide, by rintro e ⟨⟩; decide, by rintro e ⟨⟩; decide, by decide, by decide⟩

/-- A merge, an ORDERED allocation and a POSTED one that reaches the watermark of 16. -/
theorem witness_AcceptedWriteEntry :
    ((Queue.mk [entry 0 true 1] 9).offer ((writeAt 0).offer .A .posted) 16 16).1 = .merged
    ∧ ((Queue.mk [entry 0 true 1, entry 1 true 1] 9).offer ((writeAt 0).offer .A .ordered) 16 16).1 = .allocated
    ∧ ((filledTo 15).queue.offer ((writeAt 0).offer .A .posted) 0 16).1 = .allocated
    ∧ ((filledTo 14).queue.offer ((writeAt 0).offer .A .posted) 16 16).1 = .allocated := by decide

theorem witness_ThroughAcceptanceClosesAll :
    ((writeAt 0).offer .A .through).cls = .through
    ∧ ((Queue.mk [entry 0 true 1] 9).offer ((writeAt 0).offer .A .through) 16 16).1 ≠ .noSlot
    ∧ ((Queue.mk [entry 0 true 1, entry 1 true 1] 9).offer ((writeAt 0).offer .A .through) 16 16).1 = .allocated := by decide

theorem witness_AcceptedWriteIsSeen :
    (Queue.mk [entry 0 false 1, entry 0 true 2] 9).Lawful
    ∧ ((Queue.mk [entry 0 false 1, entry 0 true 2] 9).offer ((writeAt 0).offer .A .posted) 16 16).1 ≠ .noSlot
    ∧ ((Queue.mk [entry 0 false 1, entry 0 true 2] 9).offer (Access.offer ⟨true, 0, false, true, 0x2211⟩ .B .ordered) 16 16).1
        ≠ .noSlot :=
  ⟨⟨by decide, by decide, by decide⟩, by decide, by decide⟩

theorem witness_WindowExpiryClosesEntry :
    (withEntries (up .running) [entry 4 true 1, entry 5 true 2]).rstn = true
    ∧ (withEntries (up .running) [entry 4 true 1, entry 5 true 2]).queue.entries[1]? = some (entry 5 true 2) := by decide

/-- Both ports wait for a slot since the same moment. -/
def bothWait : State :=
  (waitingAt .slotWait (writeAt 0)).setPort .B
    { state := .slotWait, access := some (writeAt 64), waitStart := some 0, stallTimer := some 1000 }

theorem witness_SlotArbiterServesInOrder :
    (bothWait.control.mode = .running ∧ (filledTo 23).queue.entries.length < 24 ∧ bothWait.queue.entries.length < 24
      ∧ (bothWait.port .A).pendingWrite = true ∧ (bothWait.port .B).pendingWrite = true
      ∧ (bothWait.port .A).waitStart = some 0 ∧ (bothWait.port .B).waitStart = some 0)
    ∧ (((waitingAt .slotWait (writeAt 0)).port .A).pendingWrite = true
      ∧ ((waitingAt .slotWait (writeAt 0)).port .B).pendingWrite = false)
    ∧ ((bothWait.port .A).access = some (writeAt 0) ∧ bothWait.classify .A true 0 = .classed .posted
      ∧ (bothWait.queue.offer ((writeAt 0).offer .A .posted) bothWait.coalesceWindow bothWait.hwm).1 = .allocated) := by decide

/-- A state with a run of two entries behind which an OPEN one stands. -/
def takeable (m : Mode) : State := withEntries (up m) [entry 0 false 8, entry 1 false 9, entry 2 true 9]

theorem witness_TakeFillsBuffer :
    ((takeable .running).DrainAllowed ∧ (takeable .running).queue.entries = [entry 0 false 8, entry 1 false 9, entry 2 true 9]
      ∧ ((takeable .running).buf .pb0).state = .free ∧ Buf.pb0 = (takeable .running).drain.next)
    ∧ (((takeable .running).setBuf .pb0 (buffer .held)).buf .pb1).state = .free
    ∧ (((takeable .running).setBuf .pb0 (buffer .held)).buf .pb0).state ≠ .free
    ∧ ((takeable .pfDrain).setControl { mode := .pfDrain, budget := 2 }).DrainAllowed
    ∧ ¬ ((takeable .pfDrain).setControl { mode := .pfDrain, budget := 1 }).DrainAllowed
    ∧ (((takeable .running).setBuf .pb0 (buffer .held)).setBuf .pb1 (buffer .held)).halted = true
    ∧ (∀ b, ((((takeable .running).setBuf .pb0 (buffer .held)).setBuf .pb1 (buffer .filled)).buf b).state ≠ .free)
    ∧ ∀ h, (withEntries (up .running) [entry 0 true 9]).queue.entries.head? = some h → h.isOpen = true :=
  ⟨⟨.inl rfl, by decide, rfl, rfl⟩, by decide, by decide, .inr (.inr ⟨rfl, by decide⟩),
    by rintro (⟨⟨⟩⟩ | ⟨⟨⟩⟩ | ⟨_, h⟩); exact absurd h (by decide), by decide,
    by intro b; cases b <;> decide, by rintro h ⟨⟩; rfl⟩

theorem bytesLawful_takeable : (takeable .running).BytesLawful :=
  ⟨by
      simp only [takeable, withEntries, State.setQueue, List.forall_mem_cons]
      exact ⟨⟨by decide, by decide⟩, ⟨by decide, by decide⟩, ⟨by decide, by decide⟩, nofun⟩, ⟨by decide, by decide⟩, ⟨by decide, by decide⟩, nofun, nofun⟩

theorem witness_TakeKeepsEveryLookup :
    (takeable .running).BytesLawful ∧ ((takeable .running).buf .pb0).state = .free ∧ (takeable .running).queue.run ≠ [] :=
  ⟨bytesLawful_takeable, rfl, by decide⟩

/-- A fetch of port A on the link, orphaned or not, and a read that is held back behind it. -/
def fetching (orphaned : Bool) : State :=
  (onLink (atPort (up .running) .fetchWait (readAt 0)) (.fetch .A) (.readData 0 2)).setReads
    ⟨[{ fetchA .onLink with orphaned := orphaned }], if orphaned then some (fetchA .waiting) else none⟩

theorem witness_FetchesLeaveAndEnter :
    (((up .running).setReads ⟨[], some (fetchA .waiting)⟩).reads.heldBack = some (fetchA .waiting)
      ∧ ∀ g ∈ ((up .running).setReads ⟨[], some (fetchA .waiting)⟩).reads.fetches, g.port ≠ (fetchA .waiting).port)
    ∧ (∀ f, (fetching true).reads.heldBack = some f → ∃ g ∈ (fetching true).reads.fetches, g.port = f.port)
    ∧ (∀ o, (fetching o).rstn = true ∧ (fetching o).link.holder = some (.fetch .A)
      ∧ (fetching o).link.wire = some (.readData 0 2) ∧ { fetchA .onLink with orphaned := o } ∈ (fetching o).reads.fetches
      ∧ ∀ g ∈ (fetching o).reads.fetches, g.port = .A → g = { fetchA .onLink with orphaned := o }) :=
  ⟨⟨rfl, nofun⟩, by rintro f ⟨⟩; exact ⟨{ fetchA .onLink with orphaned := true }, by decide, rfl⟩, by intro o; cases o <;> decide⟩

/-- RUNNING with a FREE link: nothing waits, or a fetch waits, on a quiet memory or an unsettled one. -/
def fetchWaits (quiet : Bool) : State := ((up .running).setLink { quiet := quiet }).setReads ⟨[fetchA .waiting], none⟩

theorem witness_ArbiterGrantsChosenOrSettles :
    polled.link.holder ≠ none ∧ (up .running).chosen = none
    ∧ ((fetchWaits false).link.holder = none ∧ (fetchWaits false).chosen = some (.fetch, .fetch .A)
      ∧ (LinkOp.fetch .A).needsQuiet = true ∧ (fetchWaits false).link.quiet = false)
    ∧ ((fetchWaits true).chosen = some (.fetch, .fetch .A) ∧ (fetchWaits true).link.quiet = true)
    ∧ ((waitingDirect .directId).chosen = some (.direct, .directId) ∧ LinkOp.directId.needsQuiet = false) := by decide

/-- Both buffers FILLED for different pages, PB1 the younger. -/
def bothFilled (m : Mode) : State :=
  ((up m).setBuf .pb0 (buffer .filled)).setBuf .pb1 { buffer .filled with page := 6, stamp := 2 }

/-- 15 entries lie below the watermark of 16 and 16 reach it. -/
theorem witness_ChosenRequestIsFirstEligible :
    (filledTo 15).queue.entries.length < (filledTo 15).hwm ∧ (filledTo 16).hwm ≤ (filledTo 16).queue.entries.length
    ∧ (filledTo 16).control.mode = .running
    ∧ (fetchWaits true).fetchRequest = some (fetchA .waiting)
    ∧ (bothFilled .running).drainRequest = some .pb0 ∧ (bothFilled .running).drainEligible .pb1 = true
    ∧ (∀ m, (up m).control.mode = m) :=
  ⟨by decide, by decide, rfl, by decide, by decide, by decide, fun _ => rfl⟩

/-- PB0 FILLED beside PB1 HELD for the same page, the younger or the older of the two. -/
def besideHeld (stamp : Nat) : State :=
  ((up .running).setBuf .pb0 { buffer .filled with stamp := 2 }).setBuf .pb1
    { buffer .held with stamp := stamp, bytes := [(1, 0x22), (2, 0x44)] }

theorem bytesLawful_besideHeld (stamp : Nat) : (besideHeld stamp).BytesLawful :=
  ⟨nofun, ⟨by change cellsWf [(0, 0x11), (2, 0x33)] = true; decide,
    by change ∀ x ∈ [(0, (0x11 : Byte)), (2, 0x33)], x.1 < 256; decide⟩, ⟨by change cellsWf [(1, 0x22), (2, 0x44)] = true; decide,
    by change ∀ x ∈ [(1, (0x22 : Byte)), (2, 0x44)], x.1 < 256; decide⟩, nofun, nofun⟩

theorem witness_GrantPreparesSpan :
    (∀ n, (besideHeld n).BytesLawful) ∧ ((besideHeld 1).buf .pb0).state = .filled
    ∧ ((besideHeld 1).isHeldPartner .pb0 = true ∧ holesOf (((besideHeld 1).grant (.program .pb0)).buf .pb0).bytes = [])
    ∧ (holesOf (((bothFilled .running).grant (.program .pb0)).buf .pb0).bytes = [1]
      ∧ (bothFilled .running).isHeldPartner .pb0 = false) :=
  ⟨bytesLawful_besideHeld, rfl, by decide, by decide⟩

theorem witness_GapReadFillsHoles :
    (programming .gapRead (.readData 1281 1)).rstn = true
    ∧ (programming .gapRead (.readData 1281 1)).link.holder = some (.program .pb0)
    ∧ (programming .gapRead (.readData 1281 1)).link.wire = some (.readData 1281 [(0x99 : Byte)].length)
    ∧ ((programming .gapRead (.readData 1281 1)).buf .pb0).state = .gapRead := by decide

/-- PB0 or the marker write holds the link with nothing on the wire, or with a status that an earlier owner left. -/
def holding (op : LinkOp) (quiet left : Bool) : State :=
  ((up .running).setBuf .pb0 (buffer .filled)).setLink
    { holder := some op, quiet := quiet, wire := if left then some .readStatus else none, stale := left }

/-- A fetch of page 5, which pins it. -/
def pinning (s : State) : State := s.setReads ⟨[{ fetchA .waiting with addr := 640 }], none⟩

theorem witness_AttemptStart :
    ((holding (.program .pb0) true false).holderPage = some 5 ∧ (holding (.program .pb0) true false).link.quiet = true
      ∧ (holding (.program .pb0) true false).pinned 5 = false ∧ (holding (.program .pb0) true false).link.wire = none)
    ∧ (pinning (holding (.program .pb0) true false)).pinned 5 = true
    ∧ ((holding (.program .pb0) false false).link.quiet = false ∧ (holding (.program .pb0) false false).link.wire = none)
    ∧ ((holding (.program .pb0) false true).link.quiet = false ∧ (holding (.program .pb0) false true).link.wire ≠ none)
    ∧ ((holding .markerWrite true false).holderPage = some 8191 ∧ (holding .markerWrite true false).link.holder = some .markerWrite)
    := by decide

/-- PF_DRAIN with the budget, a drain attempt that started in it on the link. -/
def draining (budget : Nat) (m : MemOp) : State :=
  ((programming .programming m).setControl { mode := .pfDrain, budget := budget }).setDrain
    { (programming .programming m).drain with chargeable := true }

theorem witness_WriteIsEnabledWrittenAndPolled :
    ((draining 2 .writeEnable).link.wire = some .writeEnable ∧ (draining 2 .writeEnable).link.holder = some (.program .pb0)
      ∧ ((draining 2 .writeEnable).buf .pb0).page = 5 ∧ ((draining 2 .writeEnable).buf .pb0).spanAddr = 1280
      ∧ ((draining 2 .writeEnable).buf .pb0).spanBytes = [0x11, 0, 0x33] ∧ (draining 2 .writeEnable).pinned 5 = false
      ∧ (pinning (draining 2 .writeEnable)).pinned 5 = true)
    ∧ ((onLink (up .starting) .markerWrite .writeEnable).link.wire = some .writeEnable
      ∧ (onLink (up .starting) .markerWrite .writeEnable).link.holder = some .markerWrite)
    ∧ (programming .programming (.pageWrite 1280 [1])).link.wire = some (.pageWrite 1280 [1])
    ∧ (((up .running).setLink { holder := some (.program .pb0), pollWait := true }).link.pollWait = true
      ∧ ((up .running).setLink { holder := some (.program .pb0), pollWait := true }).link.wire = none) := by decide

/-- A status in the polling: left behind, of an attempt that settles, of a program and of a marker write. -/
theorem witness_StatusIsPolledOn :
    ((holding (.program .pb0) false true).rstn = true ∧ (holding (.program .pb0) false true).link.wire = some .readStatus
      ∧ (holding (.program .pb0) false true).link.stale = true)
    ∧ (polled.link.wire = some .readStatus ∧ polled.link.stale = false ∧ polled.link.holder = some (.program .pb0)
      ∧ (LinkOp.program .pb0).polls = true ∧ polled.link.settling = false ∧ polled.verify = true)
    ∧ (statusBusy 0x01 = true ∧ statusBusy 0x22 = false ∧ statusWriteFail 0x20 = true ∧ statusWriteFail 0xDF = false)
    ∧ ((polled.setLink { polled.link with settling := true }).link.settling = true)
    ∧ ((marking .starting).link.holder = some .markerWrite ∧ LinkOp.markerWrite.polls = true
      ∧ (marking .starting).link.stale = false) := by decide

theorem pollsProgram_polled : polled.PollsProgram .pb0 := ⟨rfl, rfl, rfl, rfl, rfl⟩

/-- PB0 polled in the mode after so many attempts, with a budget. -/
def polledIn (m : Mode) (attempts budget : Nat) : State :=
  (polled.setBuf .pb0 { buffer .programming with attempts := attempts }).setControl { mode := m, budget := budget }

/-- The retry limit is 3 and the budget decides at 2. -/
theorem witness_FailedAttemptTakesItsCourse :
    (∃ c r l m, (polledIn .running 2 0).AttemptFails .pb0 c r l m)
    ∧ (((polledIn .running 2 0).buf .pb0).attempts < (polledIn .running 2 0).retryLimit)
    ∧ ((polledIn .pfDrain 2 2).AttemptFails .pb0 .programTimerExpiry .timeout (polledIn .pfDrain 2 2).link.expired
        (polledIn .pfDrain 2 2).memory ∧ 2 ≤ (polledIn .pfDrain 2 2).control.budget)
    ∧ ((polledIn .pfDrain 2 1).AttemptFails .pb0 .programTimerExpiry .timeout (polledIn .pfDrain 2 1).link.expired
        (polledIn .pfDrain 2 1).memory ∧ (polledIn .pfDrain 2 1).control.budget < 2)
    ∧ ((polledIn .applying 3 0).AttemptFails .pb0 .programTimerExpiry .timeout (polledIn .applying 3 0).link.expired
        (polledIn .applying 3 0).memory
      ∧ (polledIn .applying 3 0).retryLimit ≤ ((polledIn .applying 3 0).buf .pb0).attempts)
    ∧ (programming .verifying (.readData 1280 3)).AttemptFails .pb0 (.verifyReadCompletion [0x11, 1, 0x33]) .verifyMismatch
        { (programming .verifying (.readData 1280 3)).link with wire := none } (programming .verifying (.readData 1280 3)).memory :=
  ⟨⟨_, _, _, _, .status 0x20 ⟨rfl, rfl, rfl, rfl, rfl⟩ (by decide) (by decide)⟩, by decide,
    ⟨.timer ⟨rfl, rfl, rfl⟩, by decide⟩, ⟨.timer ⟨rfl, rfl, rfl⟩, by decide⟩, ⟨.timer ⟨rfl, rfl, rfl⟩, by decide⟩,
    .verify _ ⟨rfl, rfl, rfl, _, rfl⟩ (by decide)⟩

/-- PB0 verifies with PB1 as its held partner, whose bytes lie inside the span, or one of them beyond it. -/
def superseding (beyond : Bool) : State :=
  ((programming .verifying (.readData 1280 3)).setBuf .pb1
    { buffer .held with bytes := if beyond then [(1, 0x22), (9, 0x44)] else [(1, 0x22)] }).setDrain
    { ((programming .verifying (.readData 1280 3)).setBuf .pb1
        { buffer .held with bytes := if beyond then [(1, 0x22), (9, 0x44)] else [(1, 0x22)] }).drain with partner := some .pb1 }

theorem witness_SuccessFreesBuffer :
    (∃ c l m, (programming .verifying (.readData 1280 3)).AttemptSucceeds .pb0 c l m)
    ∧ (programming .verifying (.readData 1280 3)).drain.partner = none
    ∧ (∀ o, ∃ c l m, (superseding o).AttemptSucceeds .pb0 c l m) ∧ (∀ o, (superseding o).drain.partner = some Buf.pb0.other)
    ∧ cellsOutside ((superseding true).buf .pb1).bytes 0 2 ≠ [] ∧ cellsOutside ((superseding false).buf .pb1).bytes 0 2 = [] :=
  ⟨⟨_, _, _, .verify ⟨rfl, rfl, rfl, _, rfl⟩⟩, rfl,
    fun o => ⟨_, _, _, .verify ⟨by cases o <;> rfl, by cases o <;> rfl, by cases o <;> rfl, 1280, by cases o <;> rfl⟩⟩,
    fun o => by cases o <;> rfl, by decide, by decide⟩

theorem witness_OutcomeReachesWaiters :
    ((waitingAt .throughWait (writeAt 3)).rstn = true ∧ ((waitingAt .throughWait (writeAt 3)).port .A).state = .throughWait
      ∧ ((waitingAt .throughWait (writeAt 3)).port .A).writes = true)
    ∧ (waitingAt .throughWait (writeAt 3)).noWaiter .A = true := by decide

/-- A DIRECT-WRITE of line 40 with two runs, so many of them written, on the link. -/
def writing (written : Nat) (m : MemOp) : State :=
  ((up .running).setMaint
    { slot := .directWrite
      direct := { line := 40, flags := 0x5, data := List.replicate 32 7, issued := written + 1, written := written } }).setLink
    { holder := some .directWrite, wire := some m, quiet := true, programTimer := some 10 }

theorem witness_DirectWriteRuns :
    ((writing 0 .writeEnable).rstn = true ∧ (writing 0 .writeEnable).link.holder = some .directWrite
      ∧ (writing 0 .writeEnable).link.wire = some .writeEnable
      ∧ (directRuns (writing 0 .writeEnable).maint.direct.flags)[0]? = some (0, 1)
      ∧ (writing 0 .writeEnable).pinned 5 = false)
    ∧ ((writing 0 .readStatus).link.wire = some .readStatus ∧ (writing 0 .readStatus).link.stale = false
      ∧ (writing 0 .readStatus).link.programTimer.isSome = true
      ∧ (writing 0 .readStatus).maint.direct.written + 1 < (directRuns (writing 0 .readStatus).maint.direct.flags).length)
    ∧ (directRuns (writing 1 .readStatus).maint.direct.flags).length ≤ (writing 1 .readStatus).maint.direct.written + 1 := by
  decide

/-- A SETTLE in place of a control request in STARTING with a stop pending. -/
def settlingStart : State :=
  ((up .starting).setLink { holder := some (.settle .control), wire := some .readStatus, settleTimer := true }).setControl
    { stopPending := true }

theorem witness_LinkWaitsEnd :
    (settlingStart.rstn = true ∧ settlingStart.link.holder = some (.settle .control) ∧ settlingStart.link.settleTimer = true
      ∧ settlingStart.link.wire = some .readStatus ∧ settlingStart.link.stale = false
      ∧ settlingStart.control.mode = .starting ∧ settlingStart.control.stopPending = true)
    ∧ (((holding (.program .pb0) true false).setLink { (holding (.program .pb0) true false).link with pinWait := true }).holderPage
        = some 5)
    ∧ (pinning (holding (.program .pb0) true false)).pinned 5 = true
    ∧ (holding (.program .pb0) true false).pinned 5 = false := by decide

theorem witness_DirectOperationsComplete :
    ((heldDirect .directId .directId .readId).rstn = true ∧ (heldDirect .directId .directId .readId).link.stale = false
      ∧ (heldDirect .directId .directId .readId).link.holder = some .directId
      ∧ (heldDirect .directId .directId .readId).link.wire = some .readId)
    ∧ ((heldDirect .directStatus .directStatus .readStatus).link.holder = some .directStatus
      ∧ (heldDirect .directStatus .directStatus .readStatus).link.wire = some .readStatus)
    ∧ ((heldDirect .directRead .directRead (.readData 0 32)).link.holder = some .directRead
      ∧ (heldDirect .directRead .directRead (.readData 0 32)).link.wire
          = some (.readData 0 (List.replicate 32 (7 : Byte)).length))
    ∧ (waitingDirect .directId).maint.direct.waiting = true := by decide

/-- The last line of the memory is 65535, the last one below the marker page 65527. -/
theorem witness_DirectOperationsAreTested :
    (AsksDirect .directId .directId 0 0 [] ∧ AsksDirect (.directRead 65536) .directRead 65536 0 []
      ∧ AsksDirect (.directWrite 65527 1 []) .directWrite 65527 1 [])
    ∧ ((up .running).takesFrames = true ∧ (up .failed).takesFrames = true)
    ∧ ((waitingDirect .directId).maint.slot ≠ .idle)
    ∧ (((up .running).setMaint { ready := true }).maint.slot = .idle ∧ ((up .running).setMaint { ready := true }).maint.ready = true)
    ∧ ((up .applying).control.mode ≠ .running ∧ (up .applying).control.mode ≠ .failed)
    ∧ ((up .running).memoryBytes ≤ 65536 * 32 ∧ 65535 * 32 < (up .running).memoryBytes)
    ∧ (pageOfLine 65528 = (up .running).markerPage ∧ pageOfLine 65527 ≠ (up .running).markerPage)
    ∧ ((up .running).directArgsOk .directId 0 0 ∧ (up .running).directArgsOk .directRead 65535 0
      ∧ (up .running).directArgsOk .directWrite 65527 1) :=
  ⟨⟨.id, .read _, .write _ _ _⟩, by decide, by decide, by decide, by decide, by decide, by decide, trivial, by
    change 65535 * 32 < (up .running).memoryBytes; decide, by
    change 65527 * 32 < (up .running).memoryBytes ∧ pageOfLine 65527 ≠ (up .running).markerPage ∧ (1 : BitVec 32) ≠ 0; decide⟩

theorem witness_RetryHeld :
    (up .running).takesFrames = true ∧ ((2 : Byte) ≠ 0 ∧ (2 : Byte) ≠ 1) ∧ ((up .running).buf .pb0).state ≠ .held
    ∧ (((up .running).setBuf .pb0 (buffer .held)).buf .pb0).state = .held
    ∧ (((up .running).setBuf .pb1 (buffer .held)).buf .pb1).state = .held := by decide

theorem witness_ReleaseHeld :
    (flushing ((up .applying).setBuf .pb0 (buffer .held))).takesFrames = true
    ∧ ((flushing ((up .applying).setBuf .pb0 (buffer .held))).buf .pb0).state = .held
    ∧ ((255 : Byte) ≠ 0 ∧ (255 : Byte) ≠ 1) ∧ ((up .running).buf .pb1).state ≠ .held := by decide

/-- Items 0 to 8 exist, item 9 does not. -/
theorem witness_ShadowSetIsMaintained :
    ((up .running).takesFrames = true ∧ (up .running).control.mode ≠ .applying)
    ∧ ((up .applying).takesFrames = true ∧ (up .applying).control.mode = .applying)
    ∧ (9 ≤ (9 : Byte).toNat ∧ (8 : Byte).toNat < 9)
    ∧ ∀ i < 9, ({ State.reset.shadow with globals := 5 } : ConfigSet).item i
        = if i = (8 : Byte).toNat then 5 else (up .running).shadow.item i := by decide

theorem witness_ApplyIsTested :
    ((up .running).takesFrames = true ∧ (waitingDirect .directId).maint.slot ≠ .idle
      ∧ ((up .running).setMaint { ready := true }).maint.ready = true ∧ (up .pfDone).control.mode ≠ .running)
    ∧ (((up .running).setBuf .pb1 (buffer .held)).buf .pb1).state = .held
    ∧ (∀ b, ((up .running).buf b).state ≠ .held)
    ∧ (({ State.reset.shadow with globals := 0 } : ConfigSet).firstBad = some 8 ∧ (up .running).shadow.firstBad = none) :=
  ⟨by decide, rfl, by intro b; cases b <;> decide, by decide⟩

theorem witness_ApplyCompletes :
    ((up .applying).rstn = true ∧ (up .applying).control.mode = .applying ∧ (up .applying).queue.entries = []
      ∧ ∀ b, ((up .applying).buf b).state = .free)
    ∧ ((up .running).control.mode ≠ .applying)
    ∧ ((withEntries (up .applying) [entry 0 false 9]).queue.entries ≠ [])
    ∧ (∃ b, (((up .applying).setBuf .pb1 (buffer .filled)).buf b).state ≠ .free)
    ∧ ∃ t, exec .applyCompletion (up .applying) = .next t ∧ t.rstn = true :=
  ⟨⟨rfl, rfl, rfl, by intro b; cases b <;> rfl⟩, by decide, by decide, ⟨.pb1, by decide⟩, _, rfl, by decide⟩

/-- A write numbered at the mark is judged, one numbered after it is not. -/
theorem witness_FlushIsAcceptedAndJudged :
    ((up .running).takesFrames = true ∧ (up .running).maint.slot = .idle ∧ (up .running).maint.ready = false
      ∧ (waitingDirect .directId).maint.slot ≠ .idle ∧ (up .applying).control.mode = .applying)
    ∧ ((flushing (withEntries (up .running) [entry 0 false 9])).maint.slot = .flush
      ∧ (flushing (withEntries (up .running) [entry 0 false 9])).flushRemains = true
      ∧ (flushing (withEntries (up .running) [entry 0 false 9])).flushBlocked = false)
    ∧ (flushing ((up .running).setQueue ⟨[entry 0 false 10], 10⟩)).flushRemains = false
    ∧ ((flushing (((up .running).setQueue ⟨[], 9⟩).setBuf .pb0 (buffer .held))).flushRemains = true
      ∧ (flushing (((up .running).setQueue ⟨[], 9⟩).setBuf .pb0 (buffer .held))).flushBlocked = true) := by decide

theorem witness_ProbeEnds :
    ((probing .readId).rstn = true ∧ (probing .readId).link.wire = some .readId ∧ (probing .readId).link.stale = false
      ∧ (probing .readId).link.holder = some .probe ∧ (probing .readId).control.probeTimer = true)
    ∧ (¬ ((255 : Byte) = 0 ∧ (255 : Byte) = 0 ∧ (254 : Byte) = 0) ∧ ¬ ((255 : Byte) = 255 ∧ (255 : Byte) = 255 ∧ (254 : Byte) = 255))
    ∧ ((probing .readStatus).link.wire = some .readStatus ∧ statusBusy 0 = false) := by decide

/-- A record with an at-risk count of 40, and a blank memory. -/
theorem witness_MarkerIsReadAndReported :
    ((onLink (up .starting) .markerRead (.readData 0x1FFF00 16)).rstn = true
      ∧ (onLink (up .starting) .markerRead (.readData 0x1FFF00 16)).link.holder = some .markerRead
      ∧ (onLink (up .starting) .markerRead (.readData 0x1FFF00 16)).link.wire
          = some (.readData 0x1FFF00 (List.replicate 16 (0xFF : Byte)).length))
    ∧ decodeMarker (List.replicate 16 0xFF) = none
    ∧ decodeMarker (MarkerRecord.encode { state := .truncated, atRisk := 40 }) = some { state := .truncated, atRisk := 40 } := by
  decide

theorem witness_MarkerRecordRoundTrip :
    (MarkerRecord.atRisk { atRisk := 40 }).toNat ≤ 40 ∧ 40 < (MarkerRecord.atRisk { atRisk := 41 }).toNat
    ∧ (List.replicate 16 (0xFF : Byte)).take 4 ≠ [0xA5, 0x5A, 0xC3, 0x3C]
    ∧ ([0xA5, 0x5A, 0xC3, 0x3C] ++ List.replicate 12 (0 : Byte)).foldl (· + ·) 0 ≠ 0 := by decide

/-- A marker write after so many attempts, with its program timer running, polled or verified. -/
def markingAfter (m : Mode) (attempts : Nat) (wire : MemOp) : State :=
  ((up m).setLink { holder := some .markerWrite, wire := some wire, quiet := true, programTimer := some 10 }).setControl
    { mode := m, marker := { attempts := attempts } }

theorem witness_MarkerWriteEnds :
    (∃ c l mem, (markingAfter .starting 1 (.readData 0x1FFF00 16)).MarkerSucceeds c l mem)
    ∧ (∀ m n, ∃ c l mem, (markingAfter m n .readStatus).MarkerFails c .timeout l mem)
    ∧ ((markingAfter .starting 2 .readStatus).control.marker.attempts < (markingAfter .starting 2 .readStatus).retryLimit
      ∧ (markingAfter .starting 3 .readStatus).retryLimit ≤ (markingAfter .starting 3 .readStatus).control.marker.attempts)
    ∧ (∀ m n w, (markingAfter m n w).control.mode = m) :=
  ⟨⟨_, _, _, .verify 0x1FFF00 rfl rfl rfl⟩, fun _ _ => ⟨_, _, _, .timer rfl rfl rfl⟩, by decide, fun _ _ _ => rfl⟩

theorem witness_AssertionEntersPfDrain :
    ((up .running).rstn = true ∧ (up .running).control.pfailLow = !true)
    ∧ (∀ m, (pin (up m) true false).rstn = true ∧ (pin (up m) true false).control.filterTimer = true
      ∧ (pin (up m) true false).control.pfailLow = true ∧ (pin (up m) true false).control.filtered = false
      ∧ (pin (up m) true false).control.mode = m ∧ (pin (up m) true false).link.holder ≠ some .markerWrite)
    ∧ (pin (onLink (up .resuming) .markerWrite .readStatus) true false).link.holder = some .markerWrite
    ∧ (pin (onLink (up .starting) .probe .readStatus) true false).controlOnLink = true
    ∧ (pin ((waitingDirect .directId).setControl { mode := .running }) true false).maint.direct.waiting = true := by
  refine ⟨by decide, fun m => ?_, by decide, by decide, by decide⟩
  cases m <;> decide

theorem witness_ReleaseResumes :
    (∀ m, (pin (up m) false true).rstn = true ∧ (pin (up m) false true).control.filterTimer = true
      ∧ (pin (up m) false true).control.pfailLow = false ∧ (pin (up m) false true).control.filtered = true
      ∧ (pin (up m) false true).control.mode = m)
    ∧ (pin (onLink (up .pfDrain) .markerWrite .readStatus) false true).link.holder = some .markerWrite :=
  ⟨fun m => by cases m <;> decide, by decide⟩

theorem witness_ResetFallsAndRises : (up .running).rstn = true ∧ State.reset.rstn = false := by decide

/-- The first and the last of the windows that are off. -/
theorem witness_ColdResetConfiguration : (1 ≤ 1 ∧ 1 < 8) ∧ (1 ≤ 7 ∧ 7 < 8) := by decide

/-- A record, for a list of them: 7 leave a place and 8 do not; the overflow count stops at 255. -/
def aRecord : FaultRecord := { kind := .drainHalted, source := .drain, epoch := 0, page := some 5, detail := 0 }

theorem witness_FaultListIsRead :
    ((up .running).takesFrames = true ∧ ((up .running).setFaults { list := [aRecord] }).faults.list = aRecord :: [])
    ∧ ((up .running).faults.list = [] ∧ (up .running).faults.Lawful)
    ∧ ((FaultUnit.mk (List.replicate 7 aRecord) 0 {} false false).list.length < 8
      ∧ 8 ≤ (FaultUnit.mk (List.replicate 8 aRecord) 254 {} false false).list.length) :=
  ⟨by decide, ⟨rfl, by decide, nofun⟩, by decide⟩

theorem witness_ReadingCommandsAndResult :
    ((up .running).takesFrames = true ∧ (up .running).ReadsOnly .status (respOk :: (up .running).statusRecord)
      ∧ (up .running).ReadsOnly (.readActive 8) (respOk :: itemBytes ((up .running).active.item 8))
      ∧ (up .running).ReadsOnly (.readShadow 9) [respInvalid])
    ∧ (((up .running).setMaint { ready := true, result := some ⟨.flush, .ok, []⟩ }).maint.ready = true
      ∧ (up .running).maint.ready = false)
    ∧ (ResultRecord.data ⟨.directRead, .ok, List.replicate 32 0⟩).length ≤ 32 :=
  ⟨⟨rfl, .status, .active 8 (by decide), .noShadow 9 (by decide)⟩, by decide, by decide⟩

theorem witness_CountersAndInterruptLine :
    (up .running).takesFrames = true ∧ (up .running).rstn = true
    ∧ (∃ t, exec .flush (up .running) = .next t ∧ t.rstn = true) ∧ ∀ mask, Instr.flush ≠ .setIrqMask mask :=
  ⟨rfl, rfl, ⟨_, rfl, by decide⟩, nofun⟩

theorem witness_FramesAndReprobe :
    ((up .running).takesFrames = true ∧ cutBeforeCommand [0x13] 7 = true ∧ cutBeforeCommand [] 1 = true
      ∧ cutBeforeCommand [0x13, 0x01] 0 = false ∧ argBytes 0x99 = none ∧ (up .starting).rstn = true)
    ∧ ((up .running).control.mode ≠ .failed ∧ (up .failed).takesFrames = true ∧ (up .failed).control.mode = .failed) := by
  decide

theorem witness_FramesDecodeToTheirCommand :
    (Instr.setIrqMask 3).wellFormed = true ∧ encodeFrame (.setIrqMask 3) = some [0x13, 3]
    ∧ 1 < [(0x13 : Byte), 3].length ∧ 0 < 8 * 1 + 7 := by decide

theorem lawful_free : Link.Lawful { quiet := true } := by
  constructor <;> simp [MemOp.needsQuiet]

theorem oneProgram_takeable : (takeable .running).OneProgram := ⟨by decide, by decide⟩

/-- The state with a run to take meets every law, and its TAKE_RUN is a step. -/
def withTake : State := { takeable .running with pending := [.takeRun] }

theorem lawful_withTake : withTake.queue.Lawful ∧ withTake.BytesLawful ∧ withTake.link.Lawful ∧ withTake.OneProgram :=
  ⟨⟨by decide, by decide, by decide⟩,
    ⟨bytesLawful_takeable.entries, bytesLawful_takeable.pb0, bytesLawful_takeable.pb1, nofun, nofun⟩,
    lawful_free, ⟨by decide, by decide⟩⟩

theorem witness_StepKeepsQueueAndBytes :
    withTake.queue.Lawful ∧ withTake.BytesLawful ∧ ∃ t, step withTake = .next t ∧ t.link.holder = some (.program .pb0) :=
  ⟨lawful_withTake.1, lawful_withTake.2.1, _, rfl, by decide⟩

theorem witness_StepKeepsLinkDiscipline :
    withTake.link.Lawful ∧ withTake.OneProgram ∧ ∃ t, step withTake = .next t ∧ t.link.wire.isSome = true :=
  ⟨lawful_withTake.2.2.1, lawful_withTake.2.2.2, _, rfl, by decide⟩

theorem witness_StepKeepsBookkeeping :
    withTake.faults.Lawful ∧ withTake.ConfigLawful ∧ withTake.reads.Lawful ∧ withTake.HeldInReset ∧ withTake.FilterLawful
    ∧ memWf withTake.memory.cells = true ∧ ∃ t, step withTake = .next t :=
  ⟨⟨by decide, nofun⟩, ⟨by decide, nofun⟩, ⟨by decide⟩, nofun, rfl, by decide, _, rfl⟩

/-- A status that ends a program without a failure, and the bytes it leaves. -/
theorem witness_MemoryChangesOnlyAtProgramEnd :
    ∃ t, exec (.readStatusCompletion 0) (polled.setMemory { busy := true, writeEnabled := true, program := some (1280, [7]) })
        = .next t ∧ memRead t.memory.cells 1280 = 7 := ⟨_, rfl, by decide⟩

theorem witness_PageWriteNeverOnPinnedPage :
    (programming .programming .writeEnable).link.Lawful ∧ (programming .programming .writeEnable).BytesLawful
    ∧ ∃ t, exec .writeEnableCompletion (programming .programming .writeEnable) = .next t
        ∧ t.link.wire = some (.pageWrite 1280 [0x11, 0, 0x33])
        ∧ (programming .programming .writeEnable).link.wire ≠ t.link.wire :=
  ⟨by constructor <;> simp [programming, onLink, up, State.setLink, State.setBuf, State.setDrain, MemOp.needsQuiet],
    ⟨nofun, ⟨by decide, by decide⟩, ⟨by decide, by decide⟩, by rintro op ⟨⟩; trivial, nofun⟩, _, rfl, by decide, by decide⟩

/-! ### Witnesses for the clauses on the ports, the requests, the grants and the lines -/

/-- Both ports hold an access in MODE_STALL, port A the first one. -/
def bothStalled (m : Mode) (a b : Access) : State :=
  (atPort (up m) .modeStall a).setPort .B
    { state := .modeStall, access := some b, stallTimer := some 1000, waitStart := if b.write then some 0 else none }
/-- A write of line 0 waits for a slot at a queue of 24 CLOSED entries of line 7. -/
def fullQueue : State := atPort (filledTo 24) .slotWait (writeAt 0)
/-- A DIRECT-WRITE of page 5 that waits, while the part holds a HELD buffer of its page or of page 6. -/
def writeWaits (page : Nat) : State :=
  ((up .running).setBuf .pb1 { buffer .held with page := page }).setMaint
    { slot := .directWrite, direct := { line := 40, flags := 1, data := List.replicate 32 0, waiting := true } }
/-- PF_DRAIN with one entry that waits, and with nothing retained. -/
def retaining : State := withEntries (up .pfDrain) [entry 3 false 8]

theorem witness_AccessEndFreesPort_begin :
    ((atPort (up .running) .ending (readAt 0)).port .A).state ≠ .idle
      ∧ (up .running).rstn = true ∧ ((up .running).port .A).state = .idle := by decide

theorem witness_WaitEndsByExpiryOrWithdrawal_waiters :
    (withEntries (up .running) [{ entry 3 false 8 with waiters := { a := true } }]).queue.entries[0]?
      = some { entry 3 false 8 with waiters := { a := true } } := rfl

theorem witness_ModeChangeActsOnWaits_ports :
    ((bothStalled .starting (readAt 0) (readAt 8)).control.mode = .starting
      ∧ ((bothStalled .starting (readAt 0) (readAt 8)).port .A).stalledRead = true
      ∧ ((bothStalled .starting (readAt 0) (readAt 8)).port .B).stalledRead = true)
    ∧ ((bothStalled .pfDone (writeAt 0) (readAt 8)).control.mode = .pfDone
      ∧ ((bothStalled .pfDone (writeAt 0) (readAt 8)).port .A).pendingWrite = true)
    ∧ ((bothStalled .applying (writeAt 0) (writeAt 8)).control.mode = .applying
      ∧ ((bothStalled .applying (writeAt 0) (writeAt 8)).port .B).pendingWrite = true)
    ∧ (fullQueue.control.mode = .running ∧ 24 ≤ fullQueue.queue.entries.length
      ∧ (fullQueue.port .A).state ≠ .modeStall ∧ (fullQueue.port .B).state ≠ .modeStall)
    ∧ (((waitingAt .modeStall (readAt 0)).port .A).access = some (readAt 0) ∧ (readAt 0).write = false
      ∧ (waitingAt .modeStall (readAt 0)).classify .A false 0 = .classed .posted
      ∧ (waitingAt .modeStall (readAt 0)).lookup 0 = none
      ∧ (waitingAt .modeStall (readAt 0x100000)).classify .A false 0x200000 = .refused .unmapped) := by decide

theorem witness_ModeChangeActsOnWaits_hit :
    ((withEntries (waitingAt .modeStall (readAt 0)) [{ entry 0 true 9 with bytes := [(0, 1), (1, 2)] }]).lookup 0).isSome = true
      ∧ ((withEntries (waitingAt .modeStall (readAt 0)) [{ entry 0 true 9 with bytes := [(0, 1), (1, 2)] }]).lookup 1).isSome = true := by
  decide

theorem witness_SlotArbiterServesInOrder_noSlot :
    fullQueue.rstn = true ∧ 24 ≤ fullQueue.queue.entries.length ∧ (fullQueue.port .A).access = some (writeAt 0)
      ∧ (writeAt 0).write = true ∧ (fullQueue.port .A).waitStart = some 0
      ∧ fullQueue.classify .A true (evenAddr (writeAt 0).addr) = .classed .posted
      ∧ (fullQueue.queue.offer ((writeAt 0).offer .A .posted) fullQueue.coalesceWindow fullQueue.hwm).1 = .noSlot := by decide

theorem witness_SlotArbiterServesInOrder_others :
    (∀ p, ((up .running).port p).pendingWrite = false) ∧ (up .pfDrain).control.mode ≠ .running
      ∧ (up .running).classify .A true (evenAddr (writeAt 0x100000).addr) = .refused .unmapped :=
  ⟨fun p => by cases p <;> rfl, by decide, by decide⟩

theorem witness_ArbiterGrantsChosenOrSettles_grants :
    fetchA .waiting ∈ (fetchWaits true).reads.fetches ∧ (fetchA .waiting).state = .waiting
      ∧ (∀ g ∈ (fetchWaits true).reads.fetches, g.port = .A → g = fetchA .waiting)
      ∧ (fetchWaits true).link.wire = none ∧ polled.link.wire ≠ none := by decide

theorem witness_ChosenRequestIsFirstEligible_marker :
    ((up .pfDrain).control.mode = .pfDrain ∧ (up .pfDrain).link.holder = none ∧ (up .pfDrain).MarkerDue)
    ∧ (retaining.link.holder = none ∧ ¬ retaining.MarkerDue)
    ∧ (onLink (up .pfDrain) (.fetch .A) (.readData 0 2)).link.holder = some (.fetch .A)
    ∧ (bothFilled .running).DrainMayGo .pb0 := by
  refine ⟨⟨rfl, rfl, .inr ⟨fun b => ?_, .inl rfl⟩⟩, ⟨rfl, ?_⟩, rfl, ⟨rfl, .inl rfl, nofun, by decide⟩⟩
  · cases b <;> exact .inl rfl
  · rintro (h | ⟨-, h | h | h⟩)
    · cases h
    · cases h
    · cases h .pb0
    · exact h .pb0 rfl

theorem witness_WriteIsEnabledWrittenAndPolled_memory :
    (SerialMemory.mk [] true false false (some (0, [1]))).busy = true ∧ (SerialMemory.mk [] false true false none).busy = false
      ∧ (SerialMemory.mk [] false true false none).writeEnabled = true ∧ (SerialMemory.mk [] false false true none).writeEnabled = false
      ∧ BitVec.getLsbD (0x20 : Byte) 0 = false ∧ BitVec.getLsbD (0x01 : Byte) 0 = true := by decide

theorem witness_DirectWriteRuns_grant :
    ((∃ b, ((writeWaits 5).buf b).state ≠ .free ∧ ((writeWaits 5).buf b).page = 40 / 8)
      ∧ (writeWaits 5).rstn = true ∧ (writeWaits 5).link.holder = none ∧ (writeWaits 5).link.quiet = true
      ∧ (writeWaits 5).chosen = some (.direct, .directWrite) ∧ (writeWaits 5).maint.direct.line.toNat = 40)
    ∧ (∀ e ∈ (writeWaits 6).queue.entries, e.line / 8 ≠ 5)
    ∧ (∀ b, ((writeWaits 6).buf b).state = .free ∨ ((writeWaits 6).buf b).page ≠ 5) ∧ (writeWaits 6).pinned 5 = false :=
  ⟨⟨⟨.pb1, by decide, rfl⟩, rfl, rfl, rfl, by decide, rfl⟩, nofun,
    fun | .pb0 => .inl rfl
        | .pb1 => .inr (by decide), rfl⟩

theorem witness_FlushIsAcceptedAndJudged_lines :
    (flushing (((up .running).setQueue ⟨[], 9⟩).setBuf .pb0 (buffer .held))).JudgedLines [40] := by
  refine ⟨by decide, fun l => ⟨fun h => ?_, ?_⟩⟩
  · cases List.mem_singleton.mp h
    exact .inr ⟨.pb0, by unfold State.Judged; decide, by decide, (0, 0x11), .head _, rfl⟩
  · rintro (⟨e, he, -⟩ | ⟨b, -, hf, c, hc, rfl⟩)
    · cases he
    · cases b
      · rcases hc with _ | ⟨_, _ | ⟨_, hc⟩⟩
        · exact .head _
        · exact .head _
        · cases hc
      · exact absurd rfl hf

theorem witness_MarkerRecordRoundTrip_bytes :
    decodeMarker (MarkerRecord.encode { atRisk := 40 }) = some { atRisk := 40 }
      ∧ (MarkerRecord.encode { atRisk := 40 }).length = 16
      ∧ ((0xA5 :: List.replicate 15 (4 : Byte)).getD 4 0 ≠ 1 ∧ (0xA5 :: List.replicate 15 (4 : Byte)).getD 4 0 ≠ 2
        ∧ (0xA5 :: List.replicate 15 (4 : Byte)).getD 4 0 ≠ 3)
      ∧ 40 < ((List.replicate 16 (41 : Byte)).getD 7 0).toNat := by decide

theorem witness_MarkerWriteEnds_grant :
    (retaining.control.mode = .pfDrain
      ∧ retaining.IsDrainRecord { state := .truncated, atRisk := 1, firstSeq := 8, lastSeq := 9 })
    ∧ (up .pfDrain).IsDrainRecord { state := .clean } ∧ (up .resuming).control.mode = .resuming
    ∧ (up .starting).control.mode = .starting := by
  refine ⟨⟨rfl, nofun, fun _ => ⟨rfl, .inl ⟨_, .head _, rfl⟩, ?_⟩, ⟨[3], by decide, rfl, fun l => ?_⟩, rfl, rfl, rfl⟩,
    ⟨fun _ _ => ⟨rfl, rfl⟩, ?_, ⟨[], by decide, rfl, fun l => ?_⟩, rfl, rfl, rfl⟩, rfl, rfl⟩
  · rintro x (⟨e, he, rfl⟩ | ⟨b, hb, -⟩)
    · cases List.mem_singleton.mp he; exact Nat.le_refl _
    · cases b <;> exact absurd rfl hb
  · constructor
    · intro h; cases List.mem_singleton.mp h; exact .inl ⟨_, .head _, rfl⟩
    · rintro (⟨e, he, rfl⟩ | ⟨b, hb, -⟩)
      · cases List.mem_singleton.mp he; exact .head _
      · cases b <;> exact absurd rfl hb
  · rintro (h | ⟨b, hb⟩)
    · exact absurd rfl h
    · cases b <;> exact absurd rfl hb
  · constructor
    · nofun
    · rintro (⟨e, he, -⟩ | ⟨b, hb, -⟩)
      · cases he
      · cases b <;> exact absurd rfl hb

/-! ### The pins -/

/-- 05 R94: PAGE-WRITE is 0xD2, most significant bit first, and the part holds MDO low while the memory answers. -/
theorem test_mdo_sends_the_command :
    (List.range 8).map (MemOp.mdoHigh (.pageWrite 0 [1])) = [true, true, false, true, false, false, true, false]
      ∧ (MemOp.mdoHigh .readStatus 8) = false := by decide
/-- 10 R187, R189: SDO is undriven while SSn is high and while RSTn is low; in a STATUS frame 0xFF comes before the response. -/
theorem test_sdo :
    (up .running).sdo .high = none ∧ State.reset.sdo (.low 0 0) = none
      ∧ ((up .running).respond 0x03 []).sdo (.low 0 0) = some 0xFF ∧ ((up .running).respond 0x03 []).sdo (.low 0 1) = some 0x03
      ∧ ((up .running).respond 0x03 []).sdo (.low 0 2) = some 0xFF := by decide

/-! ### The clauses that say what a named operation is -/

/-- 04 R71: a take unites the waiters, and the latest last_seq need not be that of the youngest entry. -/
def waitedOn : State :=
  withEntries (up .running) [{ entry 0 false 7 with lastSeq := 9, waiters := ⟨true, false⟩ },
    { entry 1 false 8 with waiters := ⟨false, true⟩ }]
theorem test_take_unites_the_waiters :
    gives .takeRun waitedOn (fun t => t.drain.pb0.waiters == ⟨true, true⟩ && t.drain.pb0.firstSeq == 7
      && t.drain.pb0.lastSeq == 9) = true := by decide
/-- 11 R206: 2, 4, 8 and 16 MiB. -/
theorem test_strapped_sizes :
    [Straps.mk false false false, ⟨false, true, false⟩, ⟨true, false, false⟩, ⟨true, true, false⟩].map Straps.memoryBytes
      = [2097152, 4194304, 8388608, 16777216] := by decide
/-- 06 R124: every other offset gives 16 runs, every offset one. -/
theorem test_most_and_fewest_runs : (directRuns 0x55555555).length = 16 ∧ directRuns 0xFFFFFFFF = [(0, 32)] := by decide
/-- 05 R94: READ-DATA of byte address 0x012345. -/
theorem test_read_data_sends_its_address : (MemOp.readData 0x012345 2).sent = [0xE3, 0x01, 0x23, 0x45] := by decide

theorem witness_ClassificationOrder_item :
    itemClassCode (ConfigSet.coldReset ⟨false, false, false⟩).w0 = 0 ∧ itemClassCode (ConfigSet.coldReset ⟨false, false, true⟩).w0 = 2
      ∧ windowMatches (ConfigSet.coldReset ⟨false, false, false⟩).w0 0x1FFFFF = true
      ∧ windowMatches (ConfigSet.coldReset ⟨false, false, false⟩).w0 0x200000 = false := by decide

theorem witness_AcceptedReadIsLookedUp_lookup :
    waitedOn.queue.entries = [] ++ waitedOn.queue.entries.head (by decide) :: waitedOn.queue.entries.tail
      ∧ (waitedOn.queue.entries.head (by decide)).line = 0 / 32
      ∧ (∀ f ∈ waitedOn.queue.entries.tail, f.line = 0 / 32 → cellsGet f.bytes (0 % 32) = none)
      ∧ (∀ e ∈ waitedOn.queue.entries, e.line = 64 / 32 → cellsGet e.bytes (64 % 32) = none)
      ∧ (((up .running).setBuf .pb0 (buffer .filled)).buf .pb1).stamp < (((up .running).setBuf .pb0 (buffer .filled)).buf .pb0).stamp := by
  decide

theorem witness_TakeFillsBuffer_watermark :
    ((takeable .running).queue.entries.length < 16 ∧ 16 ≤ (filledTo 16).queue.entries.length
      ∧ (filledTo 16).queue.entries = entry 7 false 9 :: List.replicate 15 (entry 7 false 9)) ∧ State.reset.queue.entries = [] := by
  decide

theorem witness_GrantPreparesSpan_span : CellsBelow (buffer .filled).bytes 256 ∧ (buffer .filled).bytes ≠ [] :=
  ⟨⟨by decide, by decide⟩, by decide⟩

theorem witness_AttemptStart_page :
    (draining 2 .writeEnable).holderPage = some 5 ∧ (pinning (draining 2 .writeEnable)).holderPage = some 5 := by decide

theorem witness_WriteIsEnabledWrittenAndPolled_wire :
    (programming .programming (.pageWrite 1280 [1])).link.wire = some (.pageWrite 1280 [1])
      ∧ 39 < 8 * (MemOp.pageWrite 1280 [1]).sent.length ∧ 8 * (MemOp.pageWrite 1280 [1]).sent.length ≤ 40
      ∧ (up .running).link.wire = none := by decide

theorem witness_ResetFallsAndRises_cut :
    (∀ addr data, some MemOp.readStatus ≠ some (.pageWrite addr data)) ∧ ([1] : List Byte).take 1 ≠ [] :=
  ⟨nofun, by decide⟩

/-! ### The bits of a byte, and the work that ends an event -/

/-- 10 R187: REFUSED_MODE, 0x03, goes out on SDO with six low bits first. -/
theorem test_sdo_bits :
    (List.range 8).map (((up .running).respond 0x03 []).sdoHigh (.low 0 1))
      = [some false, some false, some false, some false, some false, some false, some true, some true] := by decide
/-- 10 R187, R188: SDI carries 0x13, SET-IRQ-MASK, and then 0x01 or a part of it. -/
theorem test_sdi_bits :
    decodeLevels [false, false, false, true, false, false, true, true, false, false, false, false, false, false, false, true]
        = some (.setIrqMask 1)
      ∧ decodeLevels [false, false, false, true, false, false, true, true, false, true] = some (.frameCutShort [0x13] 2) := by decide
/-- 05 R94: the answer to READ-STATUS is read from MDI behind the eight bits of the command, whatever MDI carries there. -/
theorem test_mdi_bits : (MemOp.readStatus).received (fun k => k == 3 || k == 10) = [0x20] := by decide

/-- In RUNNING with the link FREE: port B's fetch held back, beside a fetch of the given port. -/
def heldBackFetch (place : Port) : State :=
  (up .running).setReads ⟨[{ fetchA .waiting with port := place }], some { fetchA .waiting with port := .B, order := 1 }⟩
def awaitsPin (pinned : Bool) : State :=
  let s := (draining 2 .writeEnable).setLink { holder := some (.program .pb0), pinWait := true, quiet := true }
  if pinned then pinning s else s

theorem witness_EndOfEventFrame_heldBack :
    (∃ a, (heldBackFetch .A).HeldBackEnters a ∧ a.reads.fetches.length = 2) ∧ (heldBackFetch .B).HeldBackEnters (heldBackFetch .B)
      ∧ (heldBackFetch .A).rstn = true :=
  ⟨⟨_, .enters { fetchA .waiting with port := .B, order := 1 } rfl (by decide), rfl⟩,
    .stays (by rintro f ⟨⟩; exact ⟨_, .head _, rfl⟩), rfl⟩
theorem witness_EndOfEventFrame_pinWait :
    (∃ b, (awaitsPin false).PinWaitEnds b ∧ b.link.wire = some .writeEnable) ∧ (awaitsPin true).PinWaitEnds (awaitsPin true) :=
  ⟨⟨_, .ends 5 rfl rfl (by decide), rfl⟩, .stays (by rintro - page ⟨⟩; decide)⟩
theorem witness_EndOfEventFrame_flush :
    (∃ c, (flushing (up .running)).FlushJudged c ∧ c.maint.ready = true)
    ∧ (∃ c, (flushing (((up .running).setQueue ⟨[], 9⟩).setBuf .pb0 (buffer .held))).FlushJudged c ∧ c.maint.ready = true)
    ∧ (flushing (withEntries (up .running) [entry 0 false 1])).FlushJudged (flushing (withEntries (up .running) [entry 0 false 1]))
    ∧ (up .running).FlushJudged (up .running) :=
  ⟨⟨_, .done rfl (by decide), rfl⟩, ⟨_, .blocked rfl (by decide) (by decide), rfl⟩, .goesOn rfl (by decide) (by decide),
    .noFlush (by decide)⟩
theorem witness_EndOfEventFrame_marker :
    (∃ d, (up .pfDrain).MarkerFollows d ∧ d.control.request = some .markerWrite) ∧ (up .running).MarkerFollows (up .running)
      ∧ ∃ d, (onLink (up .pfDrain) .markerWrite .writeEnable).MarkerFollows d ∧ d.control.request = none :=
  ⟨⟨_, .due rfl witness_ChosenRequestIsFirstEligible_marker.1.2.2 (by decide), rfl⟩, .elsewhere (by decide),
    _, .notDue rfl (.inr rfl), rfl⟩
/-- In RUNNING one event takes in the held-back fetch and grants the earlier one. -/
theorem test_end_of_event_in_running :
    (heldBackFetch .A).endEvent.reads.fetches.map (·.state) = [.onLink, .waiting]
      ∧ (heldBackFetch .A).endEvent.link.holder = some (.fetch .A) := by decide

/-! ### A grant without holes, two FREE buffers, a pinned run and a READ-ID left behind -/

/-- 04 R75, R77; 08 R165: a grant without holes in PF_DRAIN issues WRITE-ENABLE, and its PAGE-WRITE will be charged. -/
theorem test_grant_without_holes :
    let s := (besideHeld 1).setControl { mode := .pfDrain, budget := 8 }
    (s.grant (.program .pb0)).link.wire = some .writeEnable ∧ (s.grant (.program .pb0)).drain.chargeable = true := by decide

theorem witness_GrantPreparesSpan_attempt :
    holesOf (((besideHeld 1).grant (.program .pb0)).buf .pb0).bytes = [] ∧ (besideHeld 1).link.quiet = true
      ∧ (besideHeld 1).link.wire = none ∧ (besideHeld 1).pinned 5 = false := by decide

theorem witness_AcceptedReadIsLookedUp_free :
    ((up .running).buf .pb0).state = .free ∧ ((up .running).buf .pb1).state = .free
      ∧ ((up .running).buf .pb0).stamp = ((up .running).buf .pb1).stamp := by decide

theorem witness_AttemptStart_left :
    (holding (.program .pb0) true true).link.quiet = true ∧ (holding (.program .pb0) true true).pinned 5 = false
      ∧ (holding (.program .pb0) true true).link.wire ≠ none := by decide

theorem witness_DirectWriteRuns_pinned :
    (pinning (writing 0 .writeEnable)).rstn = true ∧ (pinning (writing 0 .writeEnable)).link.holder = some .directWrite
      ∧ (pinning (writing 0 .writeEnable)).link.wire = some .writeEnable
      ∧ (directRuns (pinning (writing 0 .writeEnable)).maint.direct.flags)[0]? = some (0, 1)
      ∧ (pinning (writing 0 .writeEnable)).pinned 5 = true := by decide

/-- A READ-ID that a PROBE left, with the READ-ID of the next PROBE behind it. -/
def leftReadId : State :=
  (up .starting).setLink { holder := some .probe, wire := some .readId, stale := true, queued := some .readId }
theorem test_left_read_id_is_not_judged :
    gives (.probeReadIdCompletion 0 0 0) leftReadId (fun t =>
      t.control.mode == .starting && t.link.wire == some .readId && !t.link.stale && t.link.queued.isNone) = true := by decide
theorem witness_ProbeEnds_left : leftReadId.link.wire = some .readId ∧ leftReadId.link.stale = true := by decide

end Sys2Proof.Tests
end

section
/-! PROOF. The window table: the fields of a window item, what a window matches, and the order of classification (01 R7,
R9; 10 R202). -/
namespace Sys2Proof.Machine

/-! ### Addresses -/

/-- A page is eight lines (00 CONVENTIONS). -/
theorem pageOfLine_lineOf (a : Nat) : pageOfLine (lineOf a) = pageOf a :=
  Nat.div_div_eq_div_mul a 32 8

/-- Every even byte address of a halfword fits the 24 bits of a record. -/
theorem toNat_evenAddr24 (h : BitVec 23) : (evenAddr24 h).toNat = 2 * h.toNat := by
  have hlt : 2 * h.toNat < 2 ^ 24 := by have := h.isLt; omega
  rw [evenAddr24, evenAddr, BitVec.toNat_ofNat, Nat.mod_eq_of_lt hlt]

/-! ### The fields of a window item -/

/-- A slice that ends with byte `i`, joined with the next byte, is a slice longer by 8 bits. -/
theorem append_itemByte (it : Item) (i n : Nat) (hi : i < 9) :
    it.extractLsb' (72 - 8 * i) n ++ itemByte it (i + 1) = it.extractLsb' (72 - 8 * (i + 1)) (n + 8) :=
  BitVec.extractLsb'_append_extractLsb'_eq_extractLsb' (by omega)

/-- An item is its ten bytes, byte 0 at its high end (10 R198). -/
theorem item_eq_append_itemByte (it : Item) :
    it = itemByte it 0 ++ itemByte it 1 ++ itemByte it 2 ++ itemByte it 3 ++ itemByte it 4
      ++ itemByte it 5 ++ itemByte it 6 ++ itemByte it 7 ++ itemByte it 8 ++ itemByte it 9 := by
  have hfirst : itemByte it 0 = it.extractLsb' (72 - 8 * 0) 8 := rfl
  rw [hfirst, append_itemByte it 0 _ (by decide), append_itemByte it 1 _ (by decide),
    append_itemByte it 2 _ (by decide), append_itemByte it 3 _ (by decide), append_itemByte it 4 _ (by decide),
    append_itemByte it 5 _ (by decide), append_itemByte it 6 _ (by decide), append_itemByte it 7 _ (by decide),
    append_itemByte it 8 _ (by decide)]
  exact BitVec.extractLsb'_eq_self.symm

theorem itemBase_eq (it : Item) : itemBase it = (itemByte it 1).toNat % 16 * 256 + (itemByte it 2).toNat := by
  rw [itemBase, BitVec.extractLsb'_toNat, Nat.shiftRight_zero]

theorem windowPermits_A_iff (it : Item) : windowPermits it .A = true ↔ itemPortCode it = 1 ∨ itemPortCode it = 3 := by
  simp [windowPermits]

theorem windowPermits_B_iff (it : Item) : windowPermits it .B = true ↔ itemPortCode it = 2 ∨ itemPortCode it = 3 := by
  simp [windowPermits]

/-! ### What a window matches -/

theorem windowMatches_iff (it : Item) (a : Nat) :
    windowMatches it a = true ↔
      itemEnable it = true ∧ itemBase it * 4096 ≤ a ∧ a < itemBase it * 4096 + 4096 * 2 ^ itemExponent it := by
  simp [windowMatches, and_assoc]

/-- Both ends of a window are multiples of 4,096, so no line lies across one of them. -/
theorem windowMatches_congr_lineOf {a a' : Nat} (h : lineOf a = lineOf a') (it : Item) :
    windowMatches it a = windowMatches it a' := by
  have hline : a / 32 = a' / 32 := h
  have hlower : itemBase it * 4096 ≤ a ↔ itemBase it * 4096 ≤ a' := by omega
  have hupper : a < itemBase it * 4096 + 4096 * 2 ^ itemExponent it ↔
      a' < itemBase it * 4096 + 4096 * 2 ^ itemExponent it := by omega
  rw [Bool.eq_iff_iff, windowMatches_iff, windowMatches_iff, hlower, hupper]

/-- The window of lowest index that matches is the one the search finds. -/
theorem find?_windowMatches {ws : List Item} {w a : Nat} {it : Item} (hw : ws[w]? = some it)
    (hit : windowMatches it a = true) (hfirst : ∀ v < w, ∀ jt, ws[v]? = some jt → windowMatches jt a = false) :
    ws.find? (windowMatches · a) = some it := by
  obtain ⟨hlt, hget⟩ := List.getElem?_eq_some_iff.mp hw
  refine List.find?_eq_some_iff_getElem.mpr ⟨hit, w, hlt, hget, fun v hv => ?_⟩
  rw [hfirst v hv _ (List.getElem?_eq_getElem (Nat.lt_trans hv hlt))]
  rfl

/-! ### The order of classification -/

section
variable {s : State} {p : Port} {write : Bool} {a : Nat} {it : Item}

theorem State.classify_markerPage (h : pageOf a = s.markerPage) : s.classify p write a = .refused .markerPage :=
  if_pos h

theorem State.classify_above_memory (hm : pageOf a ≠ s.markerPage) (h : s.memoryBytes ≤ a) :
    s.classify p write a = .refused .unmapped := by
  rw [State.classify, if_neg hm, if_pos h]

theorem State.classify_no_window (hm : pageOf a ≠ s.markerPage)
    (h : ∀ it ∈ s.active.windows, windowMatches it a = false) : s.classify p write a = .refused .unmapped := by
  have hnone : s.active.windows.find? (windowMatches · a) = none :=
    List.find?_eq_none.mpr fun it hit => by simp [h it hit]
  simp [State.classify, hm, hnone]

/-- Within the memory and off the marker page the first matching window decides: its permission, then its class. -/
theorem State.classify_of_find? (hm : pageOf a ≠ s.markerPage) (ha : a < s.memoryBytes)
    (hf : s.active.windows.find? (windowMatches · a) = some it) :
    s.classify p write a =
      if windowPermits it p = false then .refused .notPermitted
      else if write = true ∧ windowClass it = .readOnly then .refused .readOnly
      else .classed (windowClass it) := by
  simp [State.classify, hm, Nat.not_le.mpr ha, hf]

/-- A class is given only by the first matching window, and is that window's own. -/
theorem State.classify_classed {c : AccessClass} (h : s.classify p write a = .classed c) :
    ∃ it, s.active.windows.find? (windowMatches · a) = some it ∧ windowClass it = c := by
  have hm : pageOf a ≠ s.markerPage := fun hm => by simp [State.classify_markerPage hm] at h
  have ha : a < s.memoryBytes := Nat.not_le.mp fun ha => by simp [State.classify_above_memory hm ha] at h
  cases hf : s.active.windows.find? (windowMatches · a) with
  | none =>
    have hnone : ∀ it ∈ s.active.windows, windowMatches it a = false := by simpa using hf
    simp [State.classify_no_window hm hnone] at h
  | some it =>
    rw [State.classify_of_find? hm ha hf] at h
    split at h
    · cases h
    · split at h
      · cases h
      · exact ⟨it, rfl, Verdict.classed.inj h⟩

/-- The same window is found for every byte of a line, so its class does not depend on the byte, the port or the kind of
access. -/
theorem State.classify_class_unique {q : Port} {write' : Bool} {a' : Nat} {c c' : AccessClass}
    (hl : lineOf a = lineOf a') (h : s.classify p write a = .classed c) (h' : s.classify q write' a' = .classed c') :
    c = c' := by
  obtain ⟨it, hit, rfl⟩ := State.classify_classed h
  obtain ⟨it', hit', rfl⟩ := State.classify_classed h'
  have htest : (windowMatches · a) = (windowMatches · a') := funext (windowMatches_congr_lineOf hl)
  rw [htest, hit'] at hit
  rw [Option.some.inj hit]

end

/-! ### The obligation -/

/-- Settles O7: the fields by the slices of the item, the order by the tests of `State.classify`, and the one class of a
line because no window's end lies inside a line. -/
theorem classificationOrder : Obligations.ClassificationOrder := by
  refine ⟨fun it a => ⟨windowMatches_iff it a, windowPermits_A_iff it, windowPermits_B_iff it, ?_, ?_⟩,
    fun a h => ⟨rfl, rfl, pageOfLine_lineOf a, rfl, toNat_evenAddr24 h⟩,
    fun s p write a => ⟨rfl, State.classify_markerPage, State.classify_above_memory, State.classify_no_window,
      fun _ _ _ _ _ => State.classify_class_unique, ?_⟩⟩
  · intro c hc
    cases c <;> simp [windowClass, hc]
  · exact ⟨_, _, _, _, _, _, _, _, _, _, item_eq_append_itemByte it, rfl, rfl, itemBase_eq it, rfl, rfl, rfl⟩
  · intro w it hm ha hw hit hfirst
    have hverdict := State.classify_of_find? (p := p) (write := write) hm ha (find?_windowMatches hw hit hfirst)
    refine ⟨fun hp => ?_, fun hp hwrite hro => ?_, fun hp hc => ?_⟩
    · rw [hverdict, if_pos hp]
    · rw [hverdict, if_neg (by simp [hp]), if_pos ⟨hwrite, hro⟩]
    · rw [hverdict, if_neg (by simp [hp]), if_neg (by rintro ⟨rfl, hro⟩; simp [hro] at hc)]

end Sys2Proof.Machine
end

section
/-! PROOF. The shadow set: an item of a set and the set with one item replaced, and the two commands that maintain it
(07 R131, R132). -/
namespace Sys2Proof.Machine

/-! ### The nine items of a set -/

section
variable {c d : ConfigSet} {i j : Nat} {x : Item}

/-- The numbers of the nine items (07 R128). -/
theorem itemNumber_cases (hi : i < 9) :
    i = 0 ∨ i = 1 ∨ i = 2 ∨ i = 3 ∨ i = 4 ∨ i = 5 ∨ i = 6 ∨ i = 7 ∨ i = 8 := by
  omega

/-- Replacing one of the nine items shows at its own number alone. The bounds are needed: from 8 on every number names
the globals item. -/
theorem ConfigSet.item_setItem (hi : i < 9) (hj : j < 9) :
    (c.setItem i x).item j = if j = i then x else c.item j := by
  rcases itemNumber_cases hi with rfl | rfl | rfl | rfl | rfl | rfl | rfl | rfl | rfl <;>
    rcases itemNumber_cases hj with rfl | rfl | rfl | rfl | rfl | rfl | rfl | rfl | rfl <;> rfl

/-- A set is its nine items (07 R128). -/
theorem ConfigSet.ext_item (h : ∀ i < 9, c.item i = d.item i) : c = d := by
  cases c
  cases d
  rw [ConfigSet.mk.injEq]
  exact ⟨h 0 (by decide), h 1 (by decide), h 2 (by decide), h 3 (by decide), h 4 (by decide), h 5 (by decide),
    h 6 (by decide), h 7 (by decide), h 8 (by decide)⟩

/-- The set that reads `x` at item `i` and as `c` at the others is `c` with item `i` replaced. -/
theorem ConfigSet.eq_setItem (hi : i < 9) (h : ∀ j < 9, d.item j = if j = i then x else c.item j) :
    d = c.setItem i x :=
  ConfigSet.ext_item fun j hj => (h j hj).trans (ConfigSet.item_setItem hi hj).symm

end

/-! ### The two commands -/

section
variable {s : State} {item : Byte} {bytes : Item}

theorem exec_writeShadow (hf : s.takesFrames = true) :
    exec (.writeShadow item bytes) s = .next
      (if 9 ≤ item.toNat then s.respond respInvalid []
        else if s.control.mode == .applying then s.respond respRefusedMode []
        else (s.setShadow (s.shadow.setItem item.toNat bytes)).respond respOk []) :=
  congrArg Host.Outcome.next (if_pos hf)

theorem exec_revertShadow (hf : s.takesFrames = true) :
    exec .revertShadow s = .next
      (if s.control.mode == .applying then s.respond respRefusedMode []
        else (s.setShadow s.active).respond respOk []) :=
  congrArg Host.Outcome.next (if_pos hf)

theorem exec_writeShadow_noItem (hf : s.takesFrames = true) (hi : 9 ≤ item.toNat) :
    exec (.writeShadow item bytes) s = .next (s.respond respInvalid []) := by
  rw [exec_writeShadow hf, if_pos hi]

theorem exec_writeShadow_applying (hf : s.takesFrames = true) (hi : item.toNat < 9) (hm : s.control.mode = .applying) :
    exec (.writeShadow item bytes) s = .next (s.respond respRefusedMode []) := by
  rw [exec_writeShadow hf, if_neg (Nat.not_le.mpr hi), if_pos (beq_iff_eq.mpr hm)]

theorem exec_writeShadow_taken (hf : s.takesFrames = true) (hi : item.toNat < 9) (hm : s.control.mode ≠ .applying) :
    exec (.writeShadow item bytes) s =
      .next ((s.setShadow (s.shadow.setItem item.toNat bytes)).respond respOk []) := by
  rw [exec_writeShadow hf, if_neg (Nat.not_le.mpr hi), if_neg (mt beq_iff_eq.mp hm)]

theorem exec_revertShadow_applying (hf : s.takesFrames = true) (hm : s.control.mode = .applying) :
    exec .revertShadow s = .next (s.respond respRefusedMode []) := by
  rw [exec_revertShadow hf, if_pos (beq_iff_eq.mpr hm)]

theorem exec_revertShadow_taken (hf : s.takesFrames = true) (hm : s.control.mode ≠ .applying) :
    exec .revertShadow s = .next ((s.setShadow s.active).respond respOk []) := by
  rw [exec_revertShadow hf, if_neg (mt beq_iff_eq.mp hm)]

end

/-! ### The obligation -/

/-- Settles O39: each clause is one course of the command, and the set that the third describes item by item is the
one that WRITE-SHADOW stores, because a set is its nine items. -/
theorem shadowSetIsMaintained : Obligations.ShadowSetIsMaintained := by
  intro s hf
  refine ⟨fun item bytes => ⟨exec_writeShadow_noItem hf, exec_writeShadow_applying hf, ?_⟩,
    exec_revertShadow_applying hf, exec_revertShadow_taken hf⟩
  intro hi hm u hu
  rw [ConfigSet.eq_setItem hi hu]
  exact exec_writeShadow_taken hf hi hm

end Sys2Proof.Machine
end

section
/-! PROOF. The counters, the two interrupt enables and the level of IRQn (07 R134; 09 R181, R183, R184, R186). The enables
have one spelling, `FaultUnit.enables`: where an operation leaves the whole fault unit alone its frame lemma shows that it
keeps them, and every operation that touches the unit has a lemma here. -/
namespace Sys2Proof.Machine

/-- The FAULT and the DONE enable of the interrupt mask (07 R134). -/
def FaultUnit.enables (u : FaultUnit) : Bool × Bool := (u.faultEnable, u.doneEnable)

theorem FaultUnit.enables_eq_iff {u v : FaultUnit} :
    u.enables = v.enables ↔ u.faultEnable = v.faultEnable ∧ u.doneEnable = v.doneEnable :=
  Iff.of_eq (Prod.mk.injEq ..)

/-! ### Records and counters -/

@[simp] theorem FaultUnit.append_enables (u : FaultUnit) (r : FaultRecord) : (u.append r).enables = u.enables := by
  unfold FaultUnit.append
  split
  · rfl
  · split <;> rfl

@[simp] theorem State.addFault_enables (s : State) (r : FaultRecord) : (s.addFault r).faults.enables = s.faults.enables :=
  FaultUnit.append_enables s.faults r

section
variable (s : State)

@[simp] theorem State.setCounters_enables (c : Counters) : (s.setCounters c).faults.enables = s.faults.enables := rfl
@[simp] theorem State.countWriteAccepted_enables : s.countWriteAccepted.faults.enables = s.faults.enables := rfl
@[simp] theorem State.countMerge_enables : s.countMerge.faults.enables = s.faults.enables := rfl
@[simp] theorem State.countPageWrite_enables : s.countPageWrite.faults.enables = s.faults.enables := rfl
@[simp] theorem State.countRetry_enables : s.countRetry.faults.enables = s.faults.enables := rfl
@[simp] theorem State.countStall_enables : s.countStall.faults.enables = s.faults.enables := rfl
@[simp] theorem State.countPfRefused_enables : s.countPfRefused.faults.enables = s.faults.enables := rfl

end

/-- An operation with two courses keeps the enables if both do. -/
theorem enables_ite {c : Prop} [Decidable c] {s t u : State} (ht : t.faults.enables = s.faults.enables)
    (hu : u.faults.enables = s.faults.enables) : (if c then t else u).faults.enables = s.faults.enables := by
  split
  · exact ht
  · exact hu

/-! ### Ports -/

section
variable (s : State) (p : Port)

@[simp] theorem State.refuseWrite_enables (r : RefusalReason) : (s.refuseWrite p r).faults.enables = s.faults.enables := by
  simp [State.refuseWrite]

@[simp] theorem State.refuseRead_enables (r : RefusalReason) : (s.refuseRead p r).faults.enables = s.faults.enables := by
  simp [State.refuseRead]

@[simp] theorem State.writeAccepted_enables (c : AccessClass) (merged : Bool) :
    (s.writeAccepted p c merged).faults.enables = s.faults.enables := by
  have hcounted : (if merged then s.countWriteAccepted.countMerge else s.countWriteAccepted).faults.enables
      = s.faults.enables := enables_ite (by simp) (by simp)
  exact enables_ite (by simpa using hcounted) (by simpa using hcounted)

@[simp] theorem State.offerWrite_enables : (s.offerWrite p).faults.enables = s.faults.enables := by
  unfold State.offerWrite
  split
  · rfl
  · split
    · simp
    · split <;> simp

@[simp] theorem State.handRead_enables : (s.handRead p).faults.enables = s.faults.enables := by
  unfold State.handRead
  split
  · rfl
  · split <;> simp

@[simp] theorem State.offerPending_enables : (s.offerPending p).faults.enables = s.faults.enables :=
  enables_ite (by simp) rfl

@[simp] theorem State.servePending_enables : s.servePending.faults.enables = s.faults.enables :=
  enables_ite (by simp) (by simp)

@[simp] theorem State.releaseRead_enables : (s.releaseRead p).faults.enables = s.faults.enables :=
  enables_ite (by simp) rfl

@[simp] theorem State.refusePending_enables : (s.refusePending p).faults.enables = s.faults.enables :=
  enables_ite (by simp) rfl

@[simp] theorem State.portsOnMode_enables (old new : Mode) :
    (s.portsOnMode old new).faults.enables = s.faults.enables := by
  unfold State.portsOnMode
  split <;> simp

@[simp] theorem State.expireWait_enables : (s.expireWait p).faults.enables = s.faults.enables := by
  simp [State.expireWait]

@[simp] theorem State.withdrawWait_enables : (s.withdrawWait p).faults.enables = s.faults.enables := by
  simp [State.withdrawWait]

@[simp] theorem State.refusePf_enables : (s.refusePf p).faults.enables = s.faults.enables := by
  simp [State.refusePf]

@[simp] theorem State.handleByMode_enables (write : Bool) :
    (s.handleByMode p write).faults.enables = s.faults.enables := by
  unfold State.handleByMode
  cases s.control.mode with
  | starting | failed => simp
  | running | applying | pfDrain | pfDone | resuming => exact enables_ite (by simp) (by simp)

@[simp] theorem State.beginAccess_enables (acc : Access) : (s.beginAccess p acc).faults.enables = s.faults.enables :=
  enables_ite (by simp) (by simp)

@[simp] theorem State.actOnMode_enables : s.actOnMode.faults.enables = s.faults.enables := by
  unfold State.actOnMode
  cases s.control.mode with
  | running => exact enables_ite (by simp) (by simp)
  | failed | pfDone | pfDrain => simp
  | starting | applying | resuming => rfl

end

/-! ### Changes of mode -/

section
variable (s : State)

@[simp] theorem State.changeMode_enables (new : Mode) : (s.changeMode new).faults.enables = s.faults.enables := by
  simp [State.changeMode]

@[simp] theorem State.startupFailed_enables (r : StartupReason) :
    (s.startupFailed r).faults.enables = s.faults.enables := by
  simp [State.startupFailed]

@[simp] theorem State.markerFailed_enables (r : FailReason) : (s.markerFailed r).faults.enables = s.faults.enables :=
  State.addFault_enables ..

@[simp] theorem State.enterPfDrain_enables : s.enterPfDrain.faults.enables = s.faults.enables := by
  simp [State.enterPfDrain]

@[simp] theorem State.completeApply_enables : s.completeApply.faults.enables = s.faults.enables := by
  simp [State.completeApply]

@[simp] theorem State.judgeApply_enables : s.judgeApply.faults.enables = s.faults.enables :=
  enables_ite (by simp) rfl

@[simp] theorem State.abortApplyHeld_enables : s.abortApplyHeld.faults.enables = s.faults.enables :=
  enables_ite (by simp) rfl

@[simp] theorem State.acceptApply_enables : s.acceptApply.faults.enables = s.faults.enables := by
  simp [State.acceptApply]

@[simp] theorem State.startupNext_enables (next : CtrlReq) : (s.startupNext next).faults.enables = s.faults.enables :=
  enables_ite (by simp) (by simp)

@[simp] theorem State.startupDone_enables : s.startupDone.faults.enables = s.faults.enables :=
  State.changeMode_enables ..

@[simp] theorem State.drainMarkerDone_enables : s.drainMarkerDone.faults.enables = s.faults.enables :=
  State.changeMode_enables ..

@[simp] theorem State.resumeMarkerDone_enables : s.resumeMarkerDone.faults.enables = s.faults.enables :=
  enables_ite (by simp) (by simp)

@[simp] theorem State.onAssertion_enables : s.onAssertion.faults.enables = s.faults.enables := by
  unfold State.onAssertion
  cases s.control.mode with
  | running | applying => simp
  | starting | resuming => exact enables_ite rfl (by simp)
  | pfDrain | pfDone | failed => rfl

@[simp] theorem State.onRelease_enables : s.onRelease.faults.enables = s.faults.enables := by
  unfold State.onRelease
  cases s.control.mode with
  | pfDrain => exact enables_ite rfl (by simp)
  | pfDone => simp
  | starting | running | applying | resuming | failed => rfl

end

/-! ### The ends of attempts -/

section
variable (s : State) (b : Buf) (r : FailReason)

@[simp] theorem State.supersede_enables : (s.supersede b).faults.enables = s.faults.enables := by
  unfold State.supersede
  split
  · rfl
  · exact enables_ite (by simp) (by simp)

@[simp] theorem State.programSuccess_enables : (s.programSuccess b).faults.enables = s.faults.enables := by
  simp [State.programSuccess]

@[simp] theorem State.finalFailure_enables : (s.finalFailure b r).faults.enables = s.faults.enables :=
  (State.abortApplyHeld_enables _).trans (enables_ite (by simp) (by simp))

@[simp] theorem State.attemptFailed_enables : (s.attemptFailed b r).faults.enables = s.faults.enables :=
  enables_ite (by simp) (enables_ite (by simp) (by simp))

@[simp] theorem State.judgeProgram_enables (st : Byte) : (s.judgeProgram b st).faults.enables = s.faults.enables :=
  enables_ite (by simp) (enables_ite (by simp) (by simp))

@[simp] theorem State.markerSuccess_enables : s.markerSuccess.faults.enables = s.faults.enables := by
  unfold State.markerSuccess
  cases s.control.mode with
  | starting | pfDrain | resuming => simp
  | running | applying | pfDone | failed => rfl

@[simp] theorem State.markerGivenUp_enables : (s.markerGivenUp r).faults.enables = s.faults.enables := by
  unfold State.markerGivenUp
  cases s.control.mode with
  | starting | pfDrain | resuming => simp
  | running | applying | pfDone | failed => rfl

@[simp] theorem State.markerAttemptFailed_enables : (s.markerAttemptFailed r).faults.enables = s.faults.enables :=
  enables_ite (by simp) (by simp)

@[simp] theorem State.judgeMarker_enables (st : Byte) : (s.judgeMarker st).faults.enables = s.faults.enables :=
  enables_ite (by simp) (enables_ite (by simp) (by simp))

end

/-! ### Events of the queue, the link and the start-up sequence, and the release of a buffer -/

section
variable (s : State)

@[simp] theorem State.takeRun_enables : s.takeRun.faults.enables = s.faults.enables :=
  enables_ite (by simp) (by simp)

@[simp] theorem State.settleDone_enables (k : ReqKind) : (s.settleDone k).faults.enables = s.faults.enables :=
  enables_ite (by simp) (by simp)

@[simp] theorem State.probeQuiet_enables : s.probeQuiet.faults.enables = s.faults.enables := by
  simp [State.probeQuiet]

@[simp] theorem State.judgeStatus_enables (op : LinkOp) (st : Byte) :
    (s.judgeStatus op st).faults.enables = s.faults.enables := by
  cases op with
  | program _ | markerWrite => exact enables_ite (by simp) (enables_ite (by simp) (by simp))
  | directWrite | probe | settle _ => exact enables_ite (by simp) (by simp)
  | fetch _ | markerRead | directId | directStatus | directRead => rfl

@[simp] theorem State.probeSilent_enables : s.probeSilent.faults.enables = s.faults.enables := by
  simp [State.probeSilent]

@[simp] theorem State.recordLoss_enables (c : MarkerClass) : (s.recordLoss c).faults.enables = s.faults.enables :=
  enables_ite (by simp) rfl

@[simp] theorem State.placeReport_enables (bytes : List Byte) :
    (s.placeReport bytes).faults.enables = s.faults.enables := by
  simp [State.placeReport]

@[simp] theorem State.releaseBuffer_enables (b : Buf) : (s.releaseBuffer b).faults.enables = s.faults.enables := by
  unfold State.releaseBuffer
  dsimp only
  split <;> split <;> simp

end

/-! ### The commands -/

/-- While RSTn stays high no command but SET-IRQ-MASK changes the enables: its guards leave the state as it is, and the
work it does under them keeps them. -/
theorem exec_enables {c : Instr} {s : State} (hr : s.rstn = true) (hmask : ∀ mask, c ≠ .setIrqMask mask)
    (hfall : c ≠ .rstnFall) : ∃ t, exec c s = .next t ∧ t.faults.enables = s.faults.enables := by
  cases c with
  | setIrqMask mask => exact absurd rfl (hmask mask)
  | rstnFall => exact absurd rfl hfall
  | rstnRise => exact ⟨s, congrArg Host.Outcome.next (if_pos hr), rfl⟩
  | hostAccessEnd | withdrawal | stallTimerExpiry | windowTimerExpiry | takeRun | slotArbiterServe | portModeChange
  | heldBackFetchEntry | arbiterDecision | writeEnableCompletion | pollIntervalExpiry | throughWaiterOutcome | pinWaitEnd
  | directWaitLimitExpiry | directIdCompletion | directStatusCompletion | probeBusyTimerExpiry | pfailnRise
  | filteredAssertion | filteredRelease | frameCutShort | unknownCommand | status | readMarkerReport | readCounters
  | clearCounters | applyCompletion | flushCompletion | ssnRiseAfterReset =>
    exact ⟨_, rfl, enables_ite (by simp) rfl⟩
  | pfailnFall => exact ⟨_, rfl, enables_ite rfl (by simp)⟩
  | readActive | readShadow | revertShadow | reprobe =>
    exact ⟨_, rfl, enables_ite (enables_ite (by simp) (by simp)) rfl⟩
  | writeShadow => exact ⟨_, rfl, enables_ite (enables_ite (by simp) (enables_ite (by simp) (by simp))) rfl⟩
  | hostAccessBegin => exact ⟨_, rfl, enables_ite rfl (enables_ite rfl (by simp))⟩
  | directId | directStatus | directRead | directWrite | result =>
    refine ⟨_, rfl, enables_ite ?_ rfl⟩
    split <;> simp
  | readFault =>
    refine ⟨_, rfl, enables_ite ?_ rfl⟩
    split
    · simp
    · rfl
  | retryHeld | releaseHeld | flush =>
    refine ⟨_, rfl, enables_ite ?_ rfl⟩
    split
    · simp
    · exact enables_ite (by simp) (by simp)
  | apply =>
    refine ⟨_, rfl, enables_ite ?_ rfl⟩
    split
    · simp
    · refine enables_ite (by simp) (enables_ite (by simp) ?_)
      split <;> simp
  | fetchCompletion | pageWriteCompletion | settleLimitExpiry =>
    refine ⟨_, rfl, ?_⟩
    split <;> simp
  | gapReadCompletion | directReadCompletion | markerReadCompletion =>
    refine ⟨_, rfl, ?_⟩
    split
    · exact enables_ite (by simp) rfl
    · rfl
  | verifyReadCompletion =>
    refine ⟨_, rfl, ?_⟩
    split
    · exact enables_ite (by split <;> simp) rfl
    · exact enables_ite (by split <;> simp) rfl
    · rfl
  | programTimerExpiry =>
    refine ⟨_, rfl, enables_ite ?_ rfl⟩
    split <;> simp
  | readStatusCompletion =>
    refine ⟨_, rfl, enables_ite (enables_ite (by simp) ?_) rfl⟩
    split
    · exact enables_ite (by simp) rfl
    · rfl
  | probeReadIdCompletion =>
    exact ⟨_, rfl, enables_ite (enables_ite (by simp) (enables_ite (by split <;> simp) rfl)) rfl⟩

section
variable {s : State}

theorem exec_rstnFall (hr : s.rstn = true) :
    exec .rstnFall s = .next (s.coldReset (s.memory.cut s.link.wire s.now)) :=
  congrArg Host.Outcome.next (if_pos hr)

theorem exec_clearCounters (hf : s.takesFrames = true) :
    exec .clearCounters s = .next (((s.setCounters {}).setMaint { s.maint with frameErrors := 0 }).respond respOk []) :=
  congrArg Host.Outcome.next (if_pos hf)

theorem exec_setIrqMask (mask : Byte) (hf : s.takesFrames = true) :
    exec (.setIrqMask mask) s = .next ((s.setFaults { s.faults with
      faultEnable := mask.getLsbD 0, doneEnable := mask.getLsbD 1 }).respond respOk []) :=
  congrArg Host.Outcome.next (if_pos hf)

/-- A command that answers with RSTn high was not the fall of RSTn, whose cold reset leaves it low. -/
theorem ne_rstnFall_of_exec {c : Instr} {t : State} (he : exec c s = .next t) (hr : s.rstn = true) (ht : t.rstn = true) :
    c ≠ .rstnFall := by
  rintro rfl
  rw [exec_rstnFall hr, Host.Outcome.next.injEq] at he
  subst he
  cases ht

theorem State.irqLow_iff : s.irqLow = true ↔
    (s.faults.list ≠ [] ∧ s.faults.faultEnable = true) ∨ (s.maint.ready = true ∧ s.faults.doneEnable = true) := by
  simp [State.irqLow, and_comm]

end

/-! ### The obligation -/

/-- Settles O53: the counters and the two commands by their definitions, and the enables because no operation that records
a fault or advances a counter reaches them (`exec_enables`). -/
theorem countersAndInterruptLine : Obligations.CountersAndInterruptLine := by
  refine ⟨?_, fun s hf => exec_clearCounters hf, fun s mask hf => exec_setIrqMask mask hf, ?_, ?_, fun s => s.irqLow_iff⟩
  · rintro s c rfl
    exact ⟨rfl, rfl, rfl, rfl, rfl, rfl⟩
  · exact fun s hr => ⟨_, exec_rstnFall hr, rfl, rfl, rfl⟩
  · intro c s t he hr ht hmask
    obtain ⟨t', he', hkeep⟩ := exec_enables hr hmask (ne_rstnFall_of_exec he hr ht)
    obtain rfl : t' = t := Host.Outcome.next.inj (he'.symm.trans he)
    exact FaultUnit.enables_eq_iff.mp hkeep

end Sys2Proof.Machine
end


section
/-! PROOF. The laws of the posting queue under its operations (02 R21 to R23): closing, merging and placing leave no line
with two OPEN entries, and no byte leaves its line. -/
namespace Sys2Proof.Machine

theorem if_iff_congr {p q : Prop} [Decidable p] [Decidable q] {α : Type} {x y u v : α} (h : p ↔ q) (hx : x = u)
    (hy : y = v) : (if p then x else y) = if q then u else v := by
  subst hx hy
  by_cases hp : p
  · rw [if_pos hp, if_pos (h.mp hp)]
  · rw [if_neg hp, if_neg (mt h.mpr hp)]

/-! ### An entry that keeps its line and does not open again -/

/-- `f` stands for the line of `e`, is OPEN only if `e` is, and has a window timer exactly where it is OPEN if `e` has. -/
structure Entry.Narrows (e f : Entry) : Prop where
  line : f.line = e.line
  opens : f.isOpen = true → e.isOpen = true
  timer : e.timer.isSome = e.isOpen → f.timer.isSome = f.isOpen

theorem Entry.Narrows.refl (e : Entry) : e.Narrows e := ⟨rfl, id, id⟩

theorem Entry.narrows_close (e : Entry) : e.Narrows e.close := ⟨rfl, nofun, fun _ => rfl⟩

theorem Entry.narrows_closeIf (e : Entry) (line : Nat) : e.Narrows (if e.isOpenOf line then e.close else e) := by
  split
  · exact e.narrows_close
  · exact .refl e

theorem Entry.narrows_merge (e : Entry) (o : WriteOffer) (seq : Seq) : e.Narrows (e.merge o seq) := by
  unfold Entry.merge
  dsimp only
  split
  · exact ⟨rfl, nofun, fun _ => rfl⟩
  · exact ⟨rfl, id, id⟩

theorem Entry.narrows_mergeIf (e : Entry) (o : WriteOffer) (seq : Seq) :
    e.Narrows (if e.isOpenOf o.line then e.merge o seq else e) := by
  split
  · exact e.narrows_merge o seq
  · exact .refl e

/-! ### The law of the queue -/

section
variable {q : Queue}

/-- The entries narrow one by one. -/
inductive Entry.NarrowsEach : List Entry → List Entry → Prop
  | nil : Entry.NarrowsEach [] []
  | cons {e f : Entry} {es fs : List Entry} :
    e.Narrows f → Entry.NarrowsEach es fs → Entry.NarrowsEach (e :: es) (f :: fs)

theorem Entry.NarrowsEach.map {f : Entry → Entry} (hf : ∀ e : Entry, e.Narrows (f e)) (es : List Entry) :
    Entry.NarrowsEach es (es.map f) := by
  induction es with
  | nil => exact .nil
  | cons e es ih => exact .cons (hf e) ih

theorem Entry.NarrowsEach.refl (es : List Entry) : Entry.NarrowsEach es es := by
  induction es with
  | nil => exact .nil
  | cons e es ih => exact .cons (.refl e) ih

/-- The last entry narrows. -/
theorem Entry.NarrowsEach.concat {e f : Entry} (h : e.Narrows f) (es : List Entry) :
    Entry.NarrowsEach (es ++ [e]) (es ++ [f]) := by
  induction es with
  | nil => exact .cons h .nil
  | cons d es ih => exact .cons (.refl d) ih

theorem Entry.NarrowsEach.length_eq {es fs : List Entry} (hn : Entry.NarrowsEach es fs) : es.length = fs.length := by
  induction hn with
  | nil => rfl
  | cons _ _ ih => rw [List.length_cons, List.length_cons, ih]

theorem Entry.exists_narrows {es fs : List Entry} (hn : Entry.NarrowsEach es fs) :
    ∀ f ∈ fs, ∃ e ∈ es, e.Narrows f := by
  induction hn with
  | nil => nofun
  | cons hef _ ih =>
    rintro g (_ | ⟨_, hg⟩)
    · exact ⟨_, List.mem_cons_self, hef⟩
    · obtain ⟨d, hd, hdg⟩ := ih g hg
      exact ⟨d, List.mem_cons_of_mem _ hd, hdg⟩

theorem Entry.closedBehind_narrow {es fs : List Entry} (hn : Entry.NarrowsEach es fs)
    (hb : es.Pairwise fun e f => e.line = f.line → e.isOpen = false) :
    fs.Pairwise fun e f => e.line = f.line → e.isOpen = false := by
  induction hn with
  | nil => exact .nil
  | cons hef hrest ih =>
    obtain ⟨hhead, htail⟩ := List.pairwise_cons.mp hb
    refine List.pairwise_cons.mpr ⟨fun g hg hline => Bool.eq_false_iff.mpr fun hf => ?_, ih htail⟩
    obtain ⟨d, hd, hdg⟩ := Entry.exists_narrows hrest g hg
    have hclosed := hhead d hd (by rw [← hef.line, hline, hdg.line])
    simp [hef.opens hf] at hclosed

/-- A queue whose entries narrow one by one keeps its law, whatever the counter. -/
theorem Queue.Lawful.narrow {es : List Entry} {n : Seq} (h : q.Lawful) (hn : Entry.NarrowsEach q.entries es) :
    Queue.Lawful ⟨es, n⟩ := by
  obtain ⟨hfits, hbehind, htimers⟩ := h
  refine ⟨hn.length_eq ▸ hfits, Entry.closedBehind_narrow hn hbehind, fun f hf => ?_⟩
  obtain ⟨e, he, hef⟩ := Entry.exists_narrows hn f hf
  exact hef.timer (htimers e he)

theorem Queue.Lawful.map {f : Entry → Entry} {n : Seq} (h : q.Lawful) (hf : ∀ e : Entry, e.Narrows (f e)) :
    Queue.Lawful ⟨q.entries.map f, n⟩ :=
  h.narrow (.map hf q.entries)

theorem Queue.Lawful.closeAll (h : q.Lawful) : q.closeAll.Lawful := h.map Entry.narrows_close

theorem Queue.Lawful.closeLine (h : q.Lawful) (line : Nat) : (q.closeLine line).Lawful :=
  h.map fun e => e.narrows_closeIf line

theorem Queue.Lawful.merge (h : q.Lawful) (o : WriteOffer) : (q.merge o).Lawful :=
  h.map fun e => e.narrows_mergeIf o _

theorem Queue.Lawful.dropWaiter (h : q.Lawful) (p : Port) : (q.dropWaiter p).Lawful :=
  h.map fun _ => ⟨rfl, id, id⟩

theorem Queue.Lawful.hwmCheck (h : q.Lawful) (hwm : Nat) : (q.hwmCheck hwm).Lawful := by
  unfold Queue.hwmCheck
  split
  · refine h.narrow ?_
    cases q.entries with
    | nil => exact .nil
    | cons e rest => exact .cons e.narrows_close (.refl rest)
  · exact h

theorem Queue.Lawful.addWaiter (h : q.Lawful) (line : Nat) (p : Port) : (q.addWaiter line p).Lawful := by
  unfold Queue.addWaiter
  split
  · rename_i e he
    split
    · refine h.narrow ?_
      obtain ⟨ds, hds⟩ := List.getLast?_eq_some_iff.mp he
      rw [hds, List.dropLast_concat]
      have hwaits : e.Narrows { e with waiters := e.waiters.insert p } := ⟨rfl, id, id⟩
      exact .concat hwaits ds
    · exact h
  · exact h

/-- A new entry joins where a slot is free and no OPEN entry of its line is left. -/
theorem Queue.Lawful.place (h : q.Lawful) {o : WriteOffer} {window : Nat} (hslot : q.hasSlot = true)
    (hclosed : ∀ e ∈ q.entries, e.line = o.line → e.isOpen = false) : (q.place o window).Lawful := by
  obtain ⟨hfits, hbehind, htimers⟩ := h
  have hlt : q.entries.length < Config.queueCapacity := of_decide_eq_true hslot
  refine ⟨by rw [Queue.place, List.length_append]; exact hlt, ?_, fun e he => ?_⟩
  · exact List.pairwise_append.mpr ⟨hbehind, List.pairwise_singleton _ _, fun e he f hf hline =>
      hclosed e he (by rw [hline, List.mem_singleton.mp hf]; rfl)⟩
  · rcases List.mem_append.mp he with he | he
    · exact htimers e he
    · rw [List.mem_singleton.mp he]
      by_cases hw : window = 0 <;> simp [newEntry, hw]

theorem Queue.hasOpen_eq_false {line : Nat} (h : ¬ q.hasOpen line = true) :
    ∀ e ∈ q.entries, e.line = line → e.isOpen = false := by
  intro e he hline
  have hnot := List.any_eq_false.mp (Bool.eq_false_iff.mpr h) e he
  simpa [Entry.isOpenOf, hline] using hnot

theorem Queue.closeLine_closed (line : Nat) : ∀ e ∈ (q.closeLine line).entries, e.line = line → e.isOpen = false := by
  intro e he hline
  obtain ⟨d, -, rfl⟩ := List.mem_map.mp he
  by_cases hd : d.isOpenOf line = true
  · rw [if_pos hd]; rfl
  · rw [if_neg hd] at hline ⊢
    simpa [Entry.isOpenOf, hline] using hd

theorem Queue.closeLine_hasSlot (line : Nat) : (q.closeLine line).hasSlot = q.hasSlot := by
  simp [Queue.hasSlot, Queue.closeLine]

/-- Whatever is offered, the queue keeps its law (02 R27 to R32). -/
theorem Queue.Lawful.offer (h : q.Lawful) (o : WriteOffer) (window hwm : Nat) : (q.offer o window hwm).2.Lawful := by
  have hplaced (hslot : q.hasSlot = true) : ((q.closeLine o.line).place o window).Lawful :=
    (h.closeLine o.line).place (q.closeLine_hasSlot o.line ▸ hslot) (q.closeLine_closed o.line)
  cases hc : o.cls with
  | readOnly => simpa only [Queue.offer, hc] using h
  | posted =>
    simp only [Queue.offer, hc, Queue.offerPosted]
    split
    · exact h.merge o
    · rename_i hno
      split
      · rename_i hslot; exact (h.place hslot (Queue.hasOpen_eq_false hno)).hwmCheck hwm
      · exact h
  | ordered =>
    simp only [Queue.offer, hc, Queue.offerOrdered]
    split
    · exact h.merge o
    · split
      · rename_i hslot; exact (hplaced hslot).hwmCheck hwm
      · exact h
  | through =>
    simp only [Queue.offer, hc, Queue.offerThrough]
    split
    · exact (h.merge o).closeAll.addWaiter _ _
    · split
      · rename_i hslot; exact ((hplaced hslot).closeAll.addWaiter _ _).hwmCheck hwm
      · exact h

theorem Queue.Lawful.removeRun (h : q.Lawful) : q.removeRun.Lawful := by
  obtain ⟨hfits, hbehind, htimers⟩ := h
  exact ⟨Nat.le_trans (List.drop_sublist _ _).length_le hfits, hbehind.sublist (List.drop_sublist _ _),
    fun e he => htimers e (List.mem_of_mem_drop he)⟩

end

/-! ### The bytes of the entries -/

/-- Every valid byte of an entry lies in its line (02 R22). -/
def Queue.InLine (q : Queue) : Prop := ∀ e ∈ q.entries, CellsBelow e.bytes Config.lineBytes

section
variable {q : Queue}

theorem Queue.InLine.map {f : Entry → Entry} {n : Seq} (h : q.InLine) (hf : ∀ e, (f e).bytes = e.bytes) :
    Queue.InLine ⟨q.entries.map f, n⟩ := by
  intro e he
  obtain ⟨d, hd, rfl⟩ := List.mem_map.mp he
  rw [hf]
  exact h d hd

theorem Queue.InLine.closeAll (h : q.InLine) : q.closeAll.InLine := h.map fun _ => rfl

theorem Queue.InLine.closeLine (h : q.InLine) (line : Nat) : (q.closeLine line).InLine :=
  h.map fun e => by split <;> rfl

theorem Queue.InLine.dropWaiter (h : q.InLine) (p : Port) : (q.dropWaiter p).InLine := h.map fun _ => rfl

theorem Queue.InLine.removeRun (h : q.InLine) : q.removeRun.InLine := fun e he => h e (List.mem_of_mem_drop he)

theorem Queue.InLine.hwmCheck (h : q.InLine) (hwm : Nat) : (q.hwmCheck hwm).InLine := by
  unfold Queue.hwmCheck
  split
  · obtain ⟨_ | ⟨e, rest⟩, n⟩ := q
    · exact h
    · exact List.forall_mem_cons.mpr (List.forall_mem_cons.mp h)
  · exact h

theorem Queue.InLine.addWaiter (h : q.InLine) (line : Nat) (p : Port) : (q.addWaiter line p).InLine := by
  unfold Queue.addWaiter
  split
  · rename_i e he
    split
    · intro f hf
      rcases List.mem_append.mp hf with hf | hf
      · exact h f ((List.dropLast_sublist _).mem hf)
      · rw [List.mem_singleton.mp hf]; exact h e (List.mem_of_getLast? he)
    · exact h
  · exact h

theorem Entry.merge_bytes (e : Entry) (o : WriteOffer) (seq : Seq) :
    (e.merge o seq).bytes = cellsLay e.bytes o.bytes := by
  unfold Entry.merge
  dsimp only
  split <;> rfl

theorem Queue.InLine.merge (h : q.InLine) {o : WriteOffer} (ho : ∀ x ∈ o.bytes, x.1 < Config.lineBytes) :
    (q.merge o).InLine := by
  intro e he
  obtain ⟨d, hd, rfl⟩ := List.mem_map.mp he
  split
  · rw [Entry.merge_bytes]; exact (h d hd).lay ho
  · exact h d hd

theorem Queue.InLine.place (h : q.InLine) {o : WriteOffer} (ho : ∀ x ∈ o.bytes, x.1 < Config.lineBytes) (window : Nat) :
    (q.place o window).InLine := by
  intro e he
  rcases List.mem_append.mp he with he | he
  · exact h e he
  · rw [List.mem_singleton.mp he]; exact (CellsBelow.nil _).lay ho

/-- Whatever is offered of bytes of one line, every byte stays in its line. -/
theorem Queue.InLine.offer (h : q.InLine) {o : WriteOffer} (ho : ∀ x ∈ o.bytes, x.1 < Config.lineBytes)
    (window hwm : Nat) : (q.offer o window hwm).2.InLine := by
  cases hc : o.cls with
  | readOnly => simpa only [Queue.offer, hc] using h
  | posted =>
    simp only [Queue.offer, hc, Queue.offerPosted]
    split
    · exact h.merge ho
    · split
      · exact (h.place ho window).hwmCheck hwm
      · exact h
  | ordered =>
    simp only [Queue.offer, hc, Queue.offerOrdered]
    split
    · exact h.merge ho
    · split
      · exact ((h.closeLine _).place ho window).hwmCheck hwm
      · exact h
  | through =>
    simp only [Queue.offer, hc, Queue.offerThrough]
    split
    · exact (h.merge ho).closeAll.addWaiter _ _
    · split
      · exact (((h.closeLine _).place ho window).closeAll.addWaiter _ _).hwmCheck hwm
      · exact h

/-- The two bytes of a halfword stand in one line. -/
theorem Access.offer_bytes_lt (acc : Access) (p : Port) (c : AccessClass) :
    ∀ x ∈ (acc.offer p c).bytes, x.1 < Config.lineBytes := by
  have hoff : evenAddr acc.addr % Config.lineBytes + 1 < Config.lineBytes := by
    simp only [evenAddr, Config.lineBytes]; omega
  intro x hx
  rcases List.mem_append.mp hx with hx | hx
  · split at hx
    · rw [List.mem_singleton.mp hx]; exact Nat.lt_of_succ_lt hoff
    · cases hx
  · split at hx
    · rw [List.mem_singleton.mp hx]; exact hoff
    · cases hx

end

end Sys2Proof.Machine
end


section
/-! PROOF. The runs of a DIRECT-WRITE (06 R124), the span of a buffer and its holes (04 R73), and the pages that memory
operations stay in (05 R94). -/
namespace Sys2Proof.Machine

/-! ### The runs of the lane flags -/

/-- A largest set of consecutive flagged offsets among those from `lo` up to `hi`, as its start and its length. -/
structure IsRun (flags : BitVec 32) (lo hi start len : Nat) : Prop where
  nonempty : 0 < len
  low : lo ≤ start
  high : start + len ≤ hi
  flagged : ∀ i, start ≤ i → i < start + len → flags.getLsbD i = true
  before : start = lo ∨ flags.getLsbD (start - 1) = false
  behind : start + len = hi ∨ flags.getLsbD (start + len) = false

section
variable {flags : BitVec 32} {lo off hi start len : Nat}

/-- Where the offsets from `lo` up to `off` are flagged and the one behind them is not, or is none of the offsets, the
first run is all of them. -/
theorem IsRun.start_eq_iff (hlo : lo < off) (hoff : off ≤ hi) (hset : ∀ i, lo ≤ i → i < off → flags.getLsbD i = true)
    (hend : off = hi ∨ flags.getLsbD off = false) :
    IsRun flags lo hi start len ↔ (start = lo ∧ len = off - lo) ∨ off < hi ∧ IsRun flags (off + 1) hi start len := by
  constructor
  · rintro ⟨hpos, hlow, hhigh, hflagged, hbefore, hbehind⟩
    by_cases hs : start < off
    · have hstart : start = lo := by
        refine Classical.byContradiction fun hne => ?_
        have := hset (start - 1) (by omega) (by omega)
        simp_all
      have hle : start + len ≤ off := by
        refine Classical.byContradiction fun hgt => ?_
        have := hflagged off (by omega) (by omega)
        rcases hend with h | h
        · omega
        · simp_all
      have hge : off ≤ start + len := by
        refine Classical.byContradiction fun hlt => ?_
        have := hset (start + len) (by omega) (by omega)
        rcases hbehind with h | h
        · omega
        · simp_all
      exact .inl (by omega)
    · have hne : start ≠ off := by
        rintro rfl
        have := hflagged start (Nat.le_refl _) (by omega)
        rcases hend with h | h
        · omega
        · simp_all
      refine .inr ⟨by omega, hpos, by omega, hhigh, hflagged, ?_, hbehind⟩
      by_cases h1 : start = off + 1
      · exact .inl h1
      · exact .inr (hbefore.resolve_left (by omega))
  · rintro (⟨rfl, rfl⟩ | ⟨hlt, hpos, hlow, hhigh, hflagged, hbefore, hbehind⟩)
    · have : start + (off - start) = off := by omega
      exact ⟨by omega, Nat.le_refl _, by omega, fun i h1 h2 => hset i h1 (by omega), .inl rfl, by rw [this]; exact hend⟩
    · refine ⟨hpos, by omega, hhigh, hflagged, .inr ?_, hbehind⟩
      rcases hbefore with rfl | h
      · simpa using hend.resolve_left (by omega)
      · exact h

/-- An offset that is not flagged begins no run. -/
theorem IsRun.skip_iff (hoff : off < hi) (hclear : flags.getLsbD off = false) :
    IsRun flags off hi start len ↔ IsRun flags (off + 1) hi start len := by
  constructor
  · rintro ⟨hpos, hlow, hhigh, hflagged, hbefore, hbehind⟩
    have hne : start ≠ off := by
      rintro rfl
      have := hflagged start (Nat.le_refl _) (by omega)
      simp_all
    refine ⟨hpos, by omega, hhigh, hflagged, .inr (hbefore.resolve_left hne), hbehind⟩
  · rintro ⟨hpos, hlow, hhigh, hflagged, hbefore, hbehind⟩
    refine ⟨hpos, by omega, hhigh, hflagged, .inr ?_, hbehind⟩
    rcases hbefore with rfl | h
    · simpa using hclear
    · exact h

end

section
variable (flags : BitVec 32)

/-- The scan gives the runs among the offsets that are left, of which the one in progress begins at `start`. -/
theorem mem_runsFrom (fuel off : Nat) (start : Option Nat)
    (hstart : ∀ st ∈ start, st < off ∧ ∀ i, st ≤ i → i < off → flags.getLsbD i = true) (r : Nat × Nat) :
    r ∈ runsFrom flags fuel off start ↔ IsRun flags (start.getD off) (off + fuel) r.1 r.2 := by
  induction fuel generalizing off start with
  | zero =>
    cases start with
    | none =>
      simp only [runsFrom, List.not_mem_nil, false_iff, Option.getD_none, Nat.add_zero]
      rintro ⟨hpos, hlow, hhigh, -⟩
      omega
    | some st =>
      obtain ⟨hlt, hset⟩ := hstart st rfl
      simp only [runsFrom, List.mem_singleton, Option.getD_some, Nat.add_zero,
        IsRun.start_eq_iff hlt (Nat.le_refl _) hset (.inl rfl), Nat.lt_irrefl, false_and, or_false, Prod.ext_iff]
  | succ fuel ih =>
    have hhi : off + (fuel + 1) = off + 1 + fuel := by omega
    simp only [runsFrom]
    cases hf : flags.getLsbD off with
    | true =>
      have hgrow : ∀ st, (st < off ∧ ∀ i, st ≤ i → i < off → flags.getLsbD i = true) ∨ st = off →
          st < off + 1 ∧ ∀ i, st ≤ i → i < off + 1 → flags.getLsbD i = true := by
        rintro st (⟨hlt, hset⟩ | rfl)
        · refine ⟨by omega, fun i h1 h2 => ?_⟩
          rcases Nat.lt_succ_iff_lt_or_eq.mp h2 with h | rfl
          · exact hset i h1 h
          · exact hf
        · exact ⟨by omega, fun i h1 h2 => (show i = st by omega) ▸ hf⟩
      cases start with
      | none => rw [ih (off + 1) (some off) (by simpa using hgrow off (.inr rfl)), hhi]; rfl
      | some st => rw [ih (off + 1) (some st) (by simpa using hgrow st (.inl (hstart st rfl))), hhi]; rfl
    | false =>
      cases start with
      | none =>
        rw [ih (off + 1) none (by simp), hhi]
        exact (IsRun.skip_iff (by omega) hf).symm
      | some st =>
        obtain ⟨hlt, hset⟩ := hstart st rfl
        simp only [List.mem_cons, ih (off + 1) none (by simp), hhi, Option.getD_some, Option.getD_none, Prod.ext_iff,
          IsRun.start_eq_iff hlt (show off ≤ off + 1 + fuel by omega) hset (.inr hf),
          show off < off + 1 + fuel by omega, true_and]

theorem mem_directRuns (r : Nat × Nat) : r ∈ directRuns flags ↔ IsRun flags 0 32 r.1 r.2 :=
  mem_runsFrom flags 32 0 none (by simp) r

/-- A run ends before the next one begins. -/
theorem runsFrom_pairwise (fuel off : Nat) (start : Option Nat)
    (hstart : ∀ st ∈ start, st < off ∧ ∀ i, st ≤ i → i < off → flags.getLsbD i = true) :
    (runsFrom flags fuel off start).Pairwise fun r r' => r.1 + r.2 < r'.1 := by
  induction fuel generalizing off start with
  | zero => cases start <;> simp [runsFrom]
  | succ fuel ih =>
    simp only [runsFrom]
    cases hf : flags.getLsbD off with
    | true =>
      cases start with
      | none =>
        refine ih _ _ fun st hst => ?_
        obtain rfl : off = st := Option.some.inj hst
        exact ⟨by omega, fun i h1 h2 => (show i = off by omega) ▸ hf⟩
      | some st =>
        refine ih _ _ fun st' hst => ?_
        obtain rfl : st = st' := Option.some.inj hst
        obtain ⟨hlt, hset⟩ := hstart st rfl
        refine ⟨by omega, fun i h1 h2 => ?_⟩
        rcases Nat.lt_succ_iff_lt_or_eq.mp h2 with h | rfl
        · exact hset i h1 h
        · exact hf
    | false =>
      cases start with
      | none => exact ih _ _ (by simp)
      | some st =>
        obtain ⟨hlt, -⟩ := hstart st rfl
        refine List.pairwise_cons.mpr ⟨fun r hr => ?_, ih _ _ (by simp)⟩
        have hlow := ((mem_runsFrom flags fuel (off + 1) none (by simp) r).mp hr).low
        simp only [Option.getD_none] at hlow
        simp only
        omega

theorem directRuns_pairwise : (directRuns flags).Pairwise fun r r' => r.1 + r.2 < r'.1 :=
  runsFrom_pairwise flags 32 0 none (by simp)

/-- Between two runs lies an offset that is not flagged. -/
theorem length_runsFrom_le (fuel off : Nat) (start : Option Nat) :
    2 * (runsFrom flags fuel off start).length ≤ fuel + if start.isSome then 2 else 1 := by
  induction fuel generalizing off start with
  | zero => cases start <;> simp [runsFrom]
  | succ fuel ih =>
    have hsome := ih (off + 1) (some (start.getD off))
    have hnone := ih (off + 1) none
    cases hf : flags.getLsbD off <;> cases start <;>
      simp only [runsFrom, hf, List.length_cons, Option.isSome_some, Option.isSome_none, Option.getD_some,
        Option.getD_none, if_true, Bool.false_eq_true, if_false] at hsome hnone ⊢ <;> omega

theorem length_directRuns_le : (directRuns flags).length ≤ 16 := by
  have := length_runsFrom_le flags 32 0 none
  simp only [Option.isSome_none, Bool.false_eq_true, if_false] at this
  unfold directRuns
  omega

theorem runsFrom_ne_nil (fuel off : Nat) (start : Option Nat)
    (h : start.isSome = true ∨ ∃ i, off ≤ i ∧ i < off + fuel ∧ flags.getLsbD i = true) :
    runsFrom flags fuel off start ≠ [] := by
  induction fuel generalizing off start with
  | zero =>
    cases start with
    | some st => simp [runsFrom]
    | none =>
      obtain h | ⟨i, h1, h2, -⟩ := h
      · cases h
      · omega
  | succ fuel ih =>
    simp only [runsFrom]
    cases hf : flags.getLsbD off with
    | true => cases start <;> exact ih _ _ (.inl rfl)
    | false =>
      cases start with
      | some st => simp
      | none =>
        obtain h | ⟨i, h1, h2, hi⟩ := h
        · cases h
        · refine ih _ _ (.inr ⟨i, ?_, by omega, hi⟩)
          rcases Nat.eq_or_lt_of_le h1 with rfl | h
          · simp_all
          · exact h

theorem directRuns_ne_nil {flags : BitVec 32} (h : flags ≠ 0) : directRuns flags ≠ [] := by
  obtain ⟨i, hi, hset⟩ : ∃ i, i < 32 ∧ flags.getLsbD i = true := by
    refine Classical.byContradiction fun hno => ?_
    refine h (BitVec.eq_of_getLsbD_eq fun i hi => ?_)
    have hclear : ¬ flags.getLsbD i = true := fun hset => hno ⟨i, hi, hset⟩
    simpa using hclear
  exact runsFrom_ne_nil flags 32 0 none (.inr ⟨i, Nat.zero_le _, by omega, hset⟩)

end

/-! ### The span of a buffer -/

section
variable {c : List Host.Cell} {a : Nat}

theorem cellsGet_isSome_iff : (cellsGet c a).isSome = true ↔ ∃ x ∈ c, x.1 = a := by
  constructor
  · intro h
    obtain ⟨v, hv⟩ := Option.isSome_iff_exists.mp h
    exact ⟨_, cellsGet_mem hv, rfl⟩
  · rintro ⟨x, hx, rfl⟩
    induction c with
    | nil => cases hx
    | cons y rest ih =>
      simp only [cellsGet]
      split
      · rfl
      · rename_i hne
        rcases List.mem_cons.mp hx with rfl | hx
        · exact absurd rfl hne
        · exact ih hx

/-- In the canonical form the first cell has the lowest offset. -/
theorem cellsFirst_le (h : cellsWf c = true) : ∀ x ∈ c, cellsFirst c ≤ x.1 := by
  cases c with
  | nil => nofun
  | cons y rest =>
    have hpair := List.pairwise_cons.mp ((cellsWf_iff _).mp h)
    intro x hx
    rcases List.mem_cons.mp hx with rfl | hx
    · exact Nat.le_refl _
    · exact Nat.le_of_lt (hpair.1 x hx)

/-- In the canonical form the last cell has the highest offset. -/
theorem le_cellsLast (h : cellsWf c = true) : ∀ x ∈ c, x.1 ≤ cellsLast c := by
  intro x hx
  obtain ⟨ds, d, rfl⟩ := List.eq_nil_or_concat c |>.resolve_left (List.ne_nil_of_mem hx)
  rw [List.concat_eq_append] at h hx ⊢
  have hpair := (List.pairwise_append.mp ((cellsWf_iff _).mp h)).2.2
  have hlast : cellsLast (ds ++ [d]) = d.1 := by simp [cellsLast]
  rw [hlast]
  rcases List.mem_append.mp hx with hx | hx
  · exact Nat.le_of_lt (hpair x hx d (by simp))
  · exact Nat.le_of_eq (congrArg Prod.fst (List.mem_singleton.mp hx))

theorem exists_mem_cellsFirst (h : c ≠ []) : ∃ x ∈ c, x.1 = cellsFirst c := by
  cases c with
  | nil => exact absurd rfl h
  | cons y rest => exact ⟨y, List.mem_cons_self, rfl⟩

theorem exists_mem_cellsLast (h : c ≠ []) : ∃ x ∈ c, x.1 = cellsLast c := by
  obtain ⟨ds, d, rfl⟩ := List.eq_nil_or_concat c |>.resolve_left h
  exact ⟨d, by simp, by simp [cellsLast]⟩

theorem cellsFirst_le_cellsLast (h : cellsWf c = true) : cellsFirst c ≤ cellsLast c := by
  by_cases hc : c = []
  · subst hc; exact Nat.le_refl _
  · obtain ⟨x, hx, hlast⟩ := exists_mem_cellsLast hc
    exact hlast ▸ cellsFirst_le h x hx

theorem CellsBelow.cellsLast_lt {n : Nat} (h : CellsBelow c n) (hn : 0 < n) : cellsLast c < n := by
  by_cases hc : c = []
  · subst hc; exact hn
  · obtain ⟨x, hx, hlast⟩ := exists_mem_cellsLast hc
    exact hlast ▸ h.2 x hx

theorem mem_holesOf (h : cellsWf c = true) :
    a ∈ holesOf c ↔ cellsFirst c ≤ a ∧ a ≤ cellsLast c ∧ cellsGet c a = none := by
  have hle := cellsFirst_le_cellsLast h
  simp only [holesOf, List.mem_filter, List.mem_range'_1, Option.isNone_iff_eq_none]
  constructor
  · rintro ⟨⟨h1, h2⟩, h3⟩; exact ⟨h1, by omega, h3⟩
  · rintro ⟨h1, h2, h3⟩; exact ⟨⟨h1, by omega⟩, h3⟩

theorem holesOf_pairwise (c : List Host.Cell) : (holesOf c).Pairwise (· < ·) :=
  (List.pairwise_lt_range' (step := 1) (by decide)).filter _

@[simp] theorem length_cellsBytes (c : List Host.Cell) (first len : Nat) : (cellsBytes c first len).length = len := by
  simp [cellsBytes]

@[simp] theorem PageBuffer.length_spanBytes (x : PageBuffer) : x.spanBytes.length = x.spanLen := length_cellsBytes ..

/-- The span of a buffer ends inside its page (04 R73). -/
theorem PageBuffer.span_le {x : PageBuffer} (h : CellsBelow x.bytes Config.pageBytes) :
    x.spanFirst + x.spanLen ≤ Config.pageBytes := by
  have hlast := h.cellsLast_lt (by decide)
  have hle := cellsFirst_le_cellsLast h.1
  unfold PageBuffer.spanFirst PageBuffer.spanLen
  split
  · omega
  · omega

theorem PageBuffer.spanFirst_lt {x : PageBuffer} (h : CellsBelow x.bytes Config.pageBytes) :
    x.spanFirst < Config.pageBytes :=
  Nat.lt_of_le_of_lt (cellsFirst_le_cellsLast h.1) (h.cellsLast_lt (by decide))

end

/-! ### Memory operations within one page -/

/-- What begins at an offset of a page and ends inside it lies within the page, whichever page it is. -/
theorem within_page {page first len : Nat} (hlt : first < Config.pageBytes) (h : first + len ≤ Config.pageBytes) :
    (page * Config.pageBytes + first) % Config.pageBytes + len ≤ Config.pageBytes := by
  rw [Nat.mul_add_mod_self_right, Nat.mod_eq_of_lt hlt]
  exact h

theorem Straps.memoryBytes_mod (st : Straps) : (st.memoryBytes - Config.pageBytes) % Config.pageBytes = 0 := by
  have hpages : st.memoryBytes = Config.pageBytes * (16 * 2 ^ strapExponent st.size1 st.size0) := by
    rw [← Nat.mul_assoc]; rfl
  rw [hpages, ← Nat.mul_sub_one, Nat.mul_mod_right]

/-- The marker page begins at a page's first byte. -/
theorem State.markerAddr_mod (s : State) : s.markerAddr % Config.pageBytes = 0 := s.straps.memoryBytes_mod

@[simp] theorem MarkerRecord.length_encode (r : MarkerRecord) : r.encode.length = Config.markerBytes := rfl

theorem State.markerRead_withinPage (s : State) : (MemOp.readData s.markerAddr Config.markerBytes).withinPage := by
  simp only [MemOp.withinPage, s.markerAddr_mod]
  decide

theorem State.markerWrite_withinPage (s : State) (r : MarkerRecord) : (MemOp.pageWrite s.markerAddr r.encode).withinPage := by
  simp only [MemOp.withinPage, s.markerAddr_mod, MarkerRecord.length_encode]
  decide

/-- A line lies in one page, and so does every run of it (06 R122, R124). -/
theorem lineRead_withinPage (line : BitVec 24) :
    (MemOp.readData (line.toNat * Config.lineBytes) Config.lineBytes).withinPage := by
  simp only [MemOp.withinPage, Config.lineBytes, Config.pageBytes]
  omega

theorem runWrite_withinPage (d : Direct) {r : Nat × Nat} (h : d.nextRun = some r) :
    (MemOp.pageWrite (d.line.toNat * Config.lineBytes + r.1) ((d.data.drop r.1).take r.2)).withinPage := by
  have hrun := (mem_directRuns d.flags r).mp (List.mem_of_getElem? h)
  have hpos := hrun.nonempty
  have hhigh := hrun.high
  have hlen : ((d.data.drop r.1).take r.2).length ≤ r.2 := List.length_take_le ..
  simp only [MemOp.withinPage, Config.lineBytes, Config.pageBytes]
  omega

/-- A halfword lies in one page. -/
theorem halfword_withinPage (h : BitVec 23) : (MemOp.readData (evenAddr h) 2).withinPage := by
  simp only [MemOp.withinPage, evenAddr, Config.pageBytes]
  omega

theorem PageBuffer.spanWrite_withinPage {x : PageBuffer} (h : CellsBelow x.bytes Config.pageBytes) :
    (MemOp.pageWrite x.spanAddr x.spanBytes).withinPage := by
  rw [MemOp.withinPage, x.length_spanBytes]
  exact within_page (x.spanFirst_lt h) (x.span_le h)

theorem PageBuffer.spanRead_withinPage {x : PageBuffer} (h : CellsBelow x.bytes Config.pageBytes) :
    (MemOp.readData x.spanAddr x.spanLen).withinPage :=
  within_page (x.spanFirst_lt h) (x.span_le h)

/-- The gap read reaches from the first hole to the last one (04 R75, R76). -/
theorem gapRead_withinPage {c : List Host.Cell} {h : Nat} {rest : List Nat} (hc : CellsBelow c Config.pageBytes)
    (hholes : holesOf c = h :: rest) (page : Nat) :
    (MemOp.readData (page * Config.pageBytes + h) ((rest.getLast?.getD h) - h + 1)).withinPage := by
  have hlast := hc.cellsLast_lt (by decide)
  have hbound : ∀ a ∈ holesOf c, a < Config.pageBytes := fun a ha =>
    Nat.lt_of_le_of_lt ((mem_holesOf hc.1).mp ha).2.1 hlast
  have hfirst : h < Config.pageBytes := hbound h (by simp [hholes])
  have hend : rest.getLast?.getD h < Config.pageBytes := by
    cases hr : rest.getLast? with
    | none => exact hfirst
    | some l => exact hbound l (by rw [hholes]; exact List.mem_cons_of_mem _ (List.mem_of_getLast? hr))
  exact within_page hfirst (by omega)

end Sys2Proof.Machine
end


section
/-! PROOF. What every step keeps (02 R21 to R23; 04 R66; 05 R94; 07 R128, R138; 08 R160; 09 R173, R180; 11 R206).  The laws
are laws of single blocks, so an operation keeps them all when each block that it writes keeps its own: `State.KeepsLaws`
says this of two states, the setters have it under the condition on their block, and the operations inherit it piece by
piece. -/
namespace Sys2Proof.Machine

/-- Each law that a step keeps holds after if it holds before. -/
structure State.KeepsLaws (s t : State) : Prop where
  rstn : t.rstn = s.rstn
  faults : s.faults.Lawful → t.faults.Lawful
  config : s.ConfigLawful → t.ConfigLawful
  reads : s.reads.Lawful → t.reads.Lawful
  filter : s.FilterLawful → t.FilterLawful
  memory : memWf s.memory.cells = true → memWf t.memory.cells = true
  queue : s.queue.Lawful → t.queue.Lawful
  bytes : s.BytesLawful → t.BytesLawful

theorem FaultUnit.Lawful.append {u : FaultUnit} (h : u.Lawful) (r : FaultRecord) : (u.append r).Lawful := by
  obtain ⟨hfits, hbeside⟩ := h
  unfold FaultUnit.append
  split
  · exact ⟨by simpa using ‹_›, by simp⟩
  · rename_i hfull
    have hne : u.list ≠ [] := fun h => hfull (by simp [h])
    split
    · exact ⟨hfits, hbeside⟩
    · exact ⟨hfits, fun _ => hne⟩

/-! ### The fetch list -/

section
variable {r : ReadService}

/-- Fetches that stand for the same ports are still one for each port. -/
theorem ReadService.Lawful.map {f : Fetch → Fetch} {held : Option Fetch} (h : r.Lawful) (hf : ∀ g, (f g).port = g.port) :
    ReadService.Lawful ⟨r.fetches.map f, held⟩ :=
  ⟨List.pairwise_map.mpr (h.onePerPort.imp fun hne => by rwa [hf, hf])⟩

theorem ReadService.Lawful.filter {held : Option Fetch} (h : r.Lawful) (p : Fetch → Bool) :
    ReadService.Lawful ⟨r.fetches.filter p, held⟩ :=
  ⟨h.onePerPort.filter p⟩

/-- A fetch joins the list behind the others where none of its port is in it. -/
theorem ReadService.Lawful.append {held : Option Fetch} (h : r.Lawful) {f : Fetch}
    (hno : ¬ (r.fetches.any fun g => g.port == f.port) = true) : ReadService.Lawful ⟨r.fetches ++ [f], held⟩ := by
  refine ⟨List.pairwise_append.mpr ⟨h.onePerPort, List.pairwise_singleton _ _, fun g hg f' hf' => ?_⟩⟩
  rw [List.mem_singleton.mp hf']
  simpa using List.any_eq_false.mp (Bool.eq_false_iff.mpr hno) g hg

theorem ReadService.Lawful.enter (h : r.Lawful) (f : Fetch) : (r.enter f).Lawful := by
  unfold ReadService.enter
  split
  · exact ⟨h.onePerPort⟩
  · exact h.append ‹_›

theorem ReadService.Lawful.enterHeldBack (h : r.Lawful) : r.enterHeldBack.Lawful := by
  unfold ReadService.enterHeldBack
  split
  · exact h
  · split
    · exact h
    · exact h.append ‹_›

theorem ReadService.Lawful.stopWaiting (h : r.Lawful) (p : Port) : (r.stopWaiting p).Lawful := by
  unfold ReadService.stopWaiting
  split
  · exact ⟨h.onePerPort⟩
  · exact (h.filter (held := r.heldBack) _).map fun g => by split <;> rfl

end

namespace State.KeepsLaws

theorem refl (s : State) : s.KeepsLaws s := ⟨rfl, id, id, id, id, id, id, id⟩

theorem trans {s t u : State} (h : s.KeepsLaws t) (k : t.KeepsLaws u) : s.KeepsLaws u :=
  ⟨k.rstn.trans h.rstn, k.faults ∘ h.faults, k.config ∘ h.config, k.reads ∘ h.reads, k.filter ∘ h.filter,
    k.memory ∘ h.memory, k.queue ∘ h.queue, k.bytes ∘ h.bytes⟩

/-- The last operation first, as the text of an operation names it. -/
theorem after {s t u : State} (k : t.KeepsLaws u) (h : s.KeepsLaws t) : s.KeepsLaws u := h.trans k

/-- An operation with two courses keeps the laws if both do. -/
theorem ite {c : Prop} [Decidable c] {s t u : State} (ht : c → s.KeepsLaws t) (hu : ¬ c → s.KeepsLaws u) :
    s.KeepsLaws (if c then t else u) := by
  split
  · exact ht ‹_›
  · exact hu ‹_›

/-! ### The setters -/

section
variable (s : State)

theorem setPorts (x : Ports) : s.KeepsLaws (s.setPorts x) :=
  ⟨rfl, id, fun ⟨a, b⟩ => ⟨a, b⟩, id, id, id, id, fun ⟨a, b, c, d, e⟩ => ⟨a, b, c, d, e⟩⟩

theorem setMaint (x : Maint) : s.KeepsLaws (s.setMaint x) :=
  ⟨rfl, id, fun ⟨a, b⟩ => ⟨a, b⟩, id, id, id, id, fun ⟨a, b, c, d, e⟩ => ⟨a, b, c, d, e⟩⟩

theorem tick : s.KeepsLaws s.tick :=
  ⟨rfl, id, fun ⟨a, b⟩ => ⟨a, b⟩, id, id, id, id, fun ⟨a, b, c, d, e⟩ => ⟨a, b, c, d, e⟩⟩

theorem setPending (x : List Instr) : s.KeepsLaws (s.setPending x) :=
  ⟨rfl, id, fun ⟨a, b⟩ => ⟨a, b⟩, id, id, id, id, fun ⟨a, b, c, d, e⟩ => ⟨a, b, c, d, e⟩⟩

variable {s}

theorem setFaults {x : FaultUnit} (h : s.faults.Lawful → x.Lawful) : s.KeepsLaws (s.setFaults x) :=
  ⟨rfl, h, fun ⟨a, b⟩ => ⟨a, b⟩, id, id, id, id, fun ⟨a, b, c, d, e⟩ => ⟨a, b, c, d, e⟩⟩

theorem setReads {x : ReadService} (h : s.reads.Lawful → x.Lawful) : s.KeepsLaws (s.setReads x) :=
  ⟨rfl, id, fun ⟨a, b⟩ => ⟨a, b⟩, h, id, id, id, fun ⟨a, b, c, d, e⟩ => ⟨a, b, c, d, e⟩⟩

theorem setMemory {x : SerialMemory} (h : memWf s.memory.cells = true → memWf x.cells = true) :
    s.KeepsLaws (s.setMemory x) :=
  ⟨rfl, id, fun ⟨a, b⟩ => ⟨a, b⟩, id, id, h, id, fun ⟨a, b, c, d, e⟩ => ⟨a, b, c, d, e⟩⟩

theorem setQueue {q : Queue} (h : s.queue.Lawful → q.Lawful) (hb : s.queue.InLine → q.InLine) :
    s.KeepsLaws (s.setQueue q) :=
  ⟨rfl, id, fun ⟨a, b⟩ => ⟨a, b⟩, id, id, id, h, fun ⟨a, b, c, d, e⟩ => ⟨hb a, b, c, d, e⟩⟩

theorem setDrain {d : Drain} (h : s.BytesLawful → ∀ b, CellsBelow (d.buf b).bytes Config.pageBytes) :
    s.KeepsLaws (s.setDrain d) :=
  ⟨rfl, id, fun ⟨a, b⟩ => ⟨a, b⟩, id, id, id, id,
    fun hs => ⟨hs.entries, h hs .pb0, h hs .pb1, hs.wire, hs.queued⟩⟩

theorem setLink {l : Link} (hw : s.BytesLawful → ∀ op, l.wire = some op → op.withinPage)
    (hq : s.BytesLawful → ∀ op, l.queued = some op → op.withinPage) : s.KeepsLaws (s.setLink l) :=
  ⟨rfl, id, fun ⟨a, b⟩ => ⟨a, b⟩, id, id, id, id, fun hs => ⟨hs.entries, hs.pb0, hs.pb1, hw hs, hq hs⟩⟩

/-- The control block may change where the filter keeps its law and APPLYING is entered with a valid shadow set only. -/
theorem setControl {c : Control} (hf : s.FilterLawful → c.filterTimer = (s.rstn && (c.pfailLow != c.filtered)))
    (hm : c.mode = .applying → s.control.mode = .applying ∨ s.shadow.firstBad = none) : s.KeepsLaws (s.setControl c) :=
  ⟨rfl, id, fun ⟨a, b⟩ => ⟨a, fun h => (hm h).elim b id⟩, id, hf, id, id, fun ⟨a, b, c, d, e⟩ => ⟨a, b, c, d, e⟩⟩

theorem setShadow {x : ConfigSet} (h : s.ConfigLawful → s.control.mode = .applying → x.firstBad = none) :
    s.KeepsLaws (s.setShadow x) :=
  ⟨rfl, id, fun hs => ⟨hs.active, h hs⟩, id, id, id, id, fun ⟨a, b, c, d, e⟩ => ⟨a, b, c, d, e⟩⟩

theorem setActive {x : ConfigSet} (h : s.ConfigLawful → x.firstBad = none) : s.KeepsLaws (s.setActive x) :=
  ⟨rfl, id, fun hs => ⟨h hs, hs.shadow⟩, id, id, id, id, fun ⟨a, b, c, d, e⟩ => ⟨a, b, c, d, e⟩⟩

end

/-! ### Ports, buffers, records and results -/

section
variable (s : State)

theorem setPort (p : Port) (r : PortRec) : s.KeepsLaws (s.setPort p r) := by cases p <;> exact setPorts ..

theorem completeNormal (p : Port) (data : Option (BitVec 16)) : s.KeepsLaws (s.completeNormal p data) := setPort ..

theorem completeError (p : Port) : s.KeepsLaws (s.completeError p) := setPort ..

theorem setBuf {s : State} {b : Buf} {x : PageBuffer} (h : s.BytesLawful → CellsBelow x.bytes Config.pageBytes) :
    s.KeepsLaws (s.setBuf b x) :=
  setDrain fun hs c => by
    cases b <;> cases c
    · exact h hs
    · exact hs.pb1
    · exact hs.pb0
    · exact h hs

theorem bufBelow {s : State} (h : s.BytesLawful) (b : Buf) : CellsBelow (s.buf b).bytes Config.pageBytes := by
  cases b
  · exact h.pb0
  · exact h.pb1

/-- A change of the drain engine's marks alone. -/
theorem setDrain_marks {d : Drain} (h : ∀ b, d.buf b = s.buf b) : s.KeepsLaws (s.setDrain d) :=
  setDrain fun hs b => h b ▸ bufBelow hs b

theorem addFault (r : FaultRecord) : s.KeepsLaws (s.addFault r) := setFaults fun h => h.append r

theorem setCounters (c : Counters) : s.KeepsLaws (s.setCounters c) := setFaults fun ⟨a, b⟩ => ⟨a, b⟩

theorem countWriteAccepted : s.KeepsLaws s.countWriteAccepted := setCounters ..
theorem countMerge : s.KeepsLaws s.countMerge := setCounters ..
theorem countPageWrite : s.KeepsLaws s.countPageWrite := setCounters ..
theorem countRetry : s.KeepsLaws s.countRetry := setCounters ..
theorem countStall : s.KeepsLaws s.countStall := setCounters ..
theorem countPfRefused : s.KeepsLaws s.countPfRefused := setCounters ..

theorem completeLong (code : Completion) (data : List Byte) : s.KeepsLaws (s.completeLong code data) := setMaint ..

theorem respond (code : Byte) (data : List Byte) : s.KeepsLaws (s.respond code data) := setMaint ..

/-! ### Ports and their accesses -/

section
variable (p : Port)

theorem acceptRead : s.KeepsLaws (s.acceptRead p) := by
  unfold State.acceptRead
  split
  · exact .refl s
  · dsimp only
    exact ite (fun _ => after (setPort ..) (setReads fun h => h.enter _)) fun _ => completeNormal ..

theorem enterHeldBack : s.KeepsLaws s.enterHeldBack := setReads fun h => h.enterHeldBack

theorem refuseWrite (r : RefusalReason) : s.KeepsLaws (s.refuseWrite p r) := (completeError s p).trans (addFault ..)

theorem refuseRead (r : RefusalReason) : s.KeepsLaws (s.refuseRead p r) := (completeError s p).trans (addFault ..)

theorem writeAccepted (c : AccessClass) (merged : Bool) : s.KeepsLaws (s.writeAccepted p c merged) :=
  .trans (t := if merged then s.countWriteAccepted.countMerge else s.countWriteAccepted)
    (ite (fun _ => (countWriteAccepted s).trans (countMerge _)) fun _ => countWriteAccepted s)
    (ite (fun _ => setPort ..) fun _ => completeNormal ..)

theorem waitForSlot : s.KeepsLaws (s.waitForSlot p) := setPort ..

theorem offerWrite : s.KeepsLaws (s.offerWrite p) := by
  unfold State.offerWrite
  split
  · exact .refl s
  · rename_i acc _
    split
    · exact refuseWrite ..
    · rename_i c _
      have hqueue : s.KeepsLaws (s.setQueue (s.queue.offer (acc.offer p c) s.coalesceWindow s.hwm).2) :=
        setQueue (fun h => h.offer ..) fun h => h.offer (acc.offer_bytes_lt p c) _ _
      split
      · rename_i q hq; rw [hq] at hqueue; exact hqueue.trans (writeAccepted ..)
      · rename_i q hq; rw [hq] at hqueue; exact hqueue.trans (writeAccepted ..)
      · exact waitForSlot ..

theorem handRead : s.KeepsLaws (s.handRead p) := by
  unfold State.handRead
  split
  · exact .refl s
  · split
    · exact refuseRead ..
    · exact acceptRead ..

theorem offerPending : s.KeepsLaws (s.offerPending p) := ite (fun _ => offerWrite ..) fun _ => .refl s

theorem servePending : s.KeepsLaws s.servePending :=
  ite (fun _ => (offerPending ..).trans (offerPending ..)) fun _ => (offerPending ..).trans (offerPending ..)

theorem releaseRead : s.KeepsLaws (s.releaseRead p) := ite (fun _ => handRead ..) fun _ => .refl s

theorem refusePending : s.KeepsLaws (s.refusePending p) :=
  ite (fun _ => (completeError s p).trans (countPfRefused _)) fun _ => .refl s

theorem failStalled : s.KeepsLaws (s.failStalled p) := ite (fun _ => completeError ..) fun _ => .refl s

theorem releaseReads : s.KeepsLaws ((s.releaseRead .A).releaseRead .B) := (releaseRead ..).trans (releaseRead ..)

theorem refusePendings : s.KeepsLaws ((s.refusePending .A).refusePending .B) :=
  (refusePending ..).trans (refusePending ..)

theorem failStalleds : s.KeepsLaws ((s.failStalled .A).failStalled .B) := (failStalled ..).trans (failStalled ..)

theorem portsOnMode (old new : Mode) : s.KeepsLaws (s.portsOnMode old new) := by
  unfold State.portsOnMode
  split
  · exact (releaseReads s).trans (servePending _)
  · exact failStalleds s
  · exact (refusePendings s).trans (releaseReads _)
  · exact servePending s
  · exact refusePendings s
  · exact refusePendings s
  · exact .refl s

theorem throughOutcome (success : Bool) : s.KeepsLaws (s.throughOutcome p success) :=
  ite (fun _ => ite (fun _ => completeNormal ..) fun _ => completeError ..) fun _ => .refl s

theorem tellWaiters (w : PortSet) (success : Bool) : s.KeepsLaws (s.tellWaiters w success) :=
  .trans (t := if w.a then s.throughOutcome .A success else s)
    (ite (fun _ => throughOutcome ..) fun _ => .refl s) (ite (fun _ => throughOutcome ..) fun _ => .refl _)

theorem dropWaiter : s.KeepsLaws (s.dropWaiter p) :=
  .trans (t := s.setQueue (s.queue.dropWaiter p)) (setQueue (fun h => h.dropWaiter p) fun h => h.dropWaiter p)
    (setDrain fun hs b => by
      cases b
      · exact hs.pb0
      · exact hs.pb1)

theorem leaveWait : s.KeepsLaws (s.leaveWait p) := by
  unfold State.leaveWait
  split
  · exact setReads fun h => h.stopWaiting p
  · exact dropWaiter ..
  all_goals exact .refl s

theorem expireWait : s.KeepsLaws (s.expireWait p) :=
  (leaveWait s p).trans ((completeError ..).trans ((addFault ..).trans (countStall _)))

theorem withdrawWait : s.KeepsLaws (s.withdrawWait p) :=
  (leaveWait s p).trans ((setPort ..).trans ((addFault ..).trans (countStall _)))

theorem handleByMode (write : Bool) : s.KeepsLaws (s.handleByMode p write) := by
  have hread : s.KeepsLaws (s.handRead p) := handRead ..
  have hstall (w : Bool) : s.KeepsLaws (s.stallForMode p w) := setPort ..
  have hrefuse : s.KeepsLaws (s.refusePf p) := (completeError s p).trans (countPfRefused _)
  unfold State.handleByMode
  cases s.control.mode with
  | starting => exact hstall _
  | running => exact ite (fun _ => offerWrite ..) fun _ => hread
  | applying => exact ite (fun _ => hstall _) fun _ => hread
  | pfDrain | pfDone | resuming => exact ite (fun _ => hrefuse) fun _ => hread
  | failed => exact completeError ..

theorem beginAccess (acc : Access) : s.KeepsLaws (s.beginAccess p acc) :=
  .trans (t := s.capture p acc) (setPort ..)
    (ite (fun _ => completeNormal ..) fun _ => handleByMode ..)

theorem actOnMode : s.KeepsLaws s.actOnMode := by
  unfold State.actOnMode
  cases s.control.mode with
  | running => exact (releaseReads s).trans (ite (fun _ => servePending _) fun _ => .refl _)
  | failed => exact failStalleds s
  | pfDone => exact (refusePendings s).trans (releaseReads _)
  | pfDrain => exact refusePendings s
  | starting | applying | resuming => exact .refl s

end

/-! ### FLUSH and the bridge mode -/

theorem judgeFlush : s.KeepsLaws s.judgeFlush :=
  ite (fun _ => .refl s) fun _ => ite (fun _ => completeLong ..) fun _ =>
    ite (fun _ => completeLong ..) fun _ => .refl s

theorem truncateFlush : s.KeepsLaws s.truncateFlush := ite (fun _ => completeLong ..) fun _ => .refl s

/-- A change of the control block that leaves the filter and the mode alone. -/
theorem setControl_same {c : Control} (hp : c.pfailLow = s.control.pfailLow) (hf : c.filtered = s.control.filtered)
    (ht : c.filterTimer = s.control.filterTimer) (hm : c.mode = s.control.mode) : s.KeepsLaws (s.setControl c) :=
  setControl (fun h => by rw [hp, hf, ht]; exact h) fun h => .inl (hm ▸ h)

theorem setControl_enter {new : Mode} (h : new = .applying → s.shadow.firstBad = none) :
    s.KeepsLaws (s.setControl (s.control.enter new)) :=
  setControl id fun hm => .inr (h hm)

/-- A change to any mode but APPLYING keeps the laws, and one to APPLYING with a valid shadow set (07 R138). -/
theorem changeMode {new : Mode} (h : new = .applying → s.shadow.firstBad = none) : s.KeepsLaws (s.changeMode new) :=
  (setControl_enter s h).trans (portsOnMode ..)

theorem startupFailed (r : StartupReason) : s.KeepsLaws (s.startupFailed r) :=
  (addFault ..).trans (changeMode _ nofun)

theorem abortApplyPfail : s.KeepsLaws s.abortApplyPfail := ite (fun _ => completeLong ..) fun _ => .refl s

theorem abortDirect : s.KeepsLaws s.abortDirect :=
  ite (fun _ => (setMaint ..).trans (completeLong ..)) fun _ => .refl s

theorem closeAll : s.KeepsLaws (s.setQueue s.queue.closeAll) := setQueue (fun h => h.closeAll) fun h => h.closeAll

theorem enterPfDrain : s.KeepsLaws s.enterPfDrain := by
  unfold State.enterPfDrain
  exact after (changeMode _ nofun) <| after (abortDirect _) <| after (abortApplyPfail _) <|
    after (setDrain_marks _ fun b => by cases b <;> rfl) <| after (setControl_same _ rfl rfl rfl rfl) (closeAll s)

/-- The shadow set that becomes active in APPLYING has been valid since its validation (07 R138, R140). -/
theorem completeApply (h : s.control.mode = .applying) : s.KeepsLaws s.completeApply := by
  unfold State.completeApply
  exact after (changeMode _ nofun) <| after (completeLong ..) <| after (setControl_same _ rfl rfl rfl rfl) <|
    setActive fun hs => hs.shadow h

theorem judgeApply : s.KeepsLaws s.judgeApply :=
  ite (fun h => completeApply s (by simp at h; exact h.1)) fun _ => .refl s

theorem abortApplyHeld : s.KeepsLaws s.abortApplyHeld :=
  ite (fun _ => (completeLong ..).trans (changeMode _ nofun)) fun _ => .refl s

theorem requestMarker : s.KeepsLaws s.requestMarker :=
  ite (fun _ => setControl_same _ rfl rfl rfl rfl) fun _ => .refl s

/-! ### The link -/

/-- A change of the link that puts nothing on the wire or behind it. -/
theorem setLink_same {l : Link} (hw : l.wire = s.link.wire) (hq : l.queued = s.link.queued) :
    s.KeepsLaws (s.setLink l) :=
  setLink (fun h => hw ▸ h.wire) fun h => hq ▸ h.queued

theorem issue {s : State} {op : MemOp} (h : s.BytesLawful → op.withinPage) : s.KeepsLaws (s.issue op) := by
  unfold State.issue Link.issue
  split
  · exact setLink (fun hs _ hop => Option.some.inj hop ▸ h hs) fun hs => hs.queued
  · exact setLink (fun hs => hs.wire) fun hs _ hop => Option.some.inj hop ▸ h hs

theorem releaseLink : s.KeepsLaws s.releaseLink := setLink_same _ rfl rfl

theorem abandon : s.KeepsLaws (s.setLink s.link.abandon) := setLink (fun h => h.wire) fun _ => nofun

theorem timedOut : s.KeepsLaws (s.setLink s.link.timedOut) := setLink (fun h => h.wire) fun _ => nofun

theorem wireDone : s.KeepsLaws (s.setLink s.link.wireDone) := setLink (fun _ => nofun) fun h => h.queued

theorem enableOrPin : s.KeepsLaws s.enableOrPin := by
  unfold State.enableOrPin
  split
  · exact .refl s
  · exact ite (fun _ => setLink_same _ rfl rfl) fun _ => issue fun _ => trivial

theorem settleAttempt (timeout : Nat) : s.KeepsLaws (s.setLink (s.link.settleAttempt timeout)) :=
  .trans (t := s.issue .readStatus) (issue fun _ => trivial) (setLink_same _ rfl rfl)

theorem beginAttempt : s.KeepsLaws s.beginAttempt :=
  ite (fun _ => enableOrPin s) fun _ => settleAttempt s _

/-- A change of a buffer that leaves its bytes as they are. -/
theorem setBuf_bytes (b : Buf) {x : PageBuffer} (h : x.bytes = (s.buf b).bytes) : s.KeepsLaws (s.setBuf b x) :=
  setBuf fun hs => h ▸ bufBelow hs b

theorem freeBuf (b : Buf) : s.KeepsLaws (s.setBuf b .freed) := setBuf fun _ => .nil _

theorem startProgramAttempt (b : Buf) : s.KeepsLaws (s.startProgramAttempt b) := by
  unfold State.startProgramAttempt
  exact after (beginAttempt _) <| after (setDrain_marks _ fun c => by cases c <;> rfl) (setBuf_bytes s b rfl)

theorem startMarkerAttempt : s.KeepsLaws s.startMarkerAttempt := by
  unfold State.startMarkerAttempt
  exact after (beginAttempt _) (setControl_same _ rfl rfl rfl rfl)

theorem chargePageWrite : s.KeepsLaws s.chargePageWrite :=
  ite (fun _ => setControl_same _ rfl rfl rfl rfl) fun _ => .refl s

theorem countRunIssued : s.KeepsLaws s.countRunIssued := ite (fun _ => setMaint ..) fun _ => .refl s

/-- What the holder writes next lies in one page, whoever it is (05 R94). -/
theorem holderWrite_withinPage {addr : Nat} {data : List Byte} (h : s.holderWrite = some (addr, data))
    (hs : s.BytesLawful) : (MemOp.pageWrite addr data).withinPage := by
  unfold State.holderWrite at h
  split at h
  · obtain ⟨rfl, rfl⟩ := Prod.mk.inj (Option.some.inj h)
    exact PageBuffer.spanWrite_withinPage (bufBelow hs _)
  · obtain ⟨rfl, rfl⟩ := Prod.mk.inj (Option.some.inj h)
    exact s.markerWrite_withinPage _
  · obtain ⟨r, hr, hrun⟩ := Option.map_eq_some_iff.mp h
    obtain ⟨rfl, rfl⟩ := Prod.mk.inj hrun
    exact runWrite_withinPage _ hr
  · cases h

theorem issuePageWrite : s.KeepsLaws s.issuePageWrite := by
  unfold State.issuePageWrite
  split
  · rename_i hwrite _
    exact ite (fun _ => setLink_same _ rfl rfl) fun _ =>
      after (countRunIssued _) <| after (chargePageWrite _) <| issue (holderWrite_withinPage s hwrite)
  · exact .refl s

/-! ### The ends of attempts -/

theorem supersede (b : Buf) : s.KeepsLaws (s.supersede b) := by
  unfold State.supersede
  split
  · exact .refl s
  · rename_i o _
    exact ite (fun _ => (freeBuf s o).trans ((tellWaiters ..).trans (addFault ..)))
      fun _ => setBuf fun hs => (bufBelow hs o).filter _

theorem endProgram : s.KeepsLaws s.endProgram := by
  unfold State.endProgram
  exact after (releaseLink _) (setDrain_marks s fun b => by cases b <;> rfl)

theorem programSuccess (b : Buf) : s.KeepsLaws (s.programSuccess b) := by
  unfold State.programSuccess
  exact after (judgeApply _) <| after (endProgram _) <| after (freeBuf ..) <| after (supersede ..) <|
    after (tellWaiters ..) (countPageWrite s)

theorem finalFailure (b : Buf) (r : FailReason) : s.KeepsLaws (s.finalFailure b r) := by
  unfold State.finalFailure
  exact after (abortApplyHeld _) <| after (ite (fun _ => addFault ..) fun _ => .refl _) <| after (endProgram _) <|
    after (tellWaiters ..) <| after (addFault ..) (setBuf_bytes s b rfl)

theorem suspend (b : Buf) : s.KeepsLaws (s.suspend b) := by
  unfold State.suspend
  exact after (endProgram _) (setBuf_bytes s b rfl)

theorem attemptFailed (b : Buf) (r : FailReason) : s.KeepsLaws (s.attemptFailed b r) := by
  unfold State.attemptFailed
  exact after (ite (fun _ => finalFailure ..) fun _ => ite (fun _ => suspend ..) fun _ => startProgramAttempt ..) <|
    after (setBuf_bytes s.countRetry b rfl) (countRetry s)

theorem judgeProgram (b : Buf) (st : Byte) : s.KeepsLaws (s.judgeProgram b st) := by
  unfold State.judgeProgram
  refine ite (fun _ => attemptFailed ..) fun _ => ite (fun _ => ?_) fun _ => programSuccess ..
  refine after (issue fun hs => ?_) (setBuf_bytes s b rfl)
  have hbuf := bufBelow hs b
  rw [State.setBuf_buf_same] at hbuf
  exact PageBuffer.spanRead_withinPage (x := s.buf b) hbuf

/-! ### The marker write -/

theorem grantMarkerWrite : s.KeepsLaws s.grantMarkerWrite := by
  unfold State.grantMarkerWrite
  exact after (startMarkerAttempt _) <| after (ite (fun _ => truncateFlush _) fun _ => .refl _)
    (setControl_same s rfl rfl rfl rfl)

theorem startupNext (next : CtrlReq) : s.KeepsLaws (s.startupNext next) :=
  ite (fun _ => changeMode s nofun) fun _ => setControl_same s rfl rfl rfl rfl

theorem startupDone : s.KeepsLaws s.startupDone := changeMode s fun h => by split at h <;> cases h

theorem drainMarkerDone : s.KeepsLaws s.drainMarkerDone := changeMode s fun h => by split at h <;> cases h

theorem resumeMarkerDone : s.KeepsLaws s.resumeMarkerDone :=
  ite (fun _ => enterPfDrain s) fun _ => changeMode s nofun

theorem markerSuccess : s.KeepsLaws s.markerSuccess := by
  refine .trans (t := s.releaseLink) (releaseLink s) ?_
  unfold State.markerSuccess
  cases s.control.mode with
  | starting => exact startupDone _
  | pfDrain => exact drainMarkerDone _
  | resuming => exact resumeMarkerDone _
  | running | applying | pfDone | failed => exact .refl _

theorem markerGivenUp (r : FailReason) : s.KeepsLaws (s.markerGivenUp r) := by
  refine .trans (t := s.releaseLink) (releaseLink s) ?_
  unfold State.markerGivenUp
  cases s.control.mode with
  | starting => exact startupFailed ..
  | pfDrain => exact after (drainMarkerDone _) (addFault ..)
  | resuming => exact after (resumeMarkerDone _) (addFault ..)
  | running | applying | pfDone | failed => exact .refl _

theorem markerAttemptFailed (r : FailReason) : s.KeepsLaws (s.markerAttemptFailed r) := by
  unfold State.markerAttemptFailed
  exact after (ite (fun _ => markerGivenUp ..) fun _ => startMarkerAttempt _) (setControl_same s rfl rfl rfl rfl)

theorem judgeMarker (st : Byte) : s.KeepsLaws (s.judgeMarker st) :=
  ite (fun _ => markerAttemptFailed ..) fun _ =>
    ite (fun _ => issue fun _ => s.markerRead_withinPage) fun _ => markerSuccess s

theorem endDirect (code : Completion) (data : List Byte) : s.KeepsLaws (s.endDirect code data) :=
  (releaseLink s).trans (completeLong ..)

theorem judgeRun (st : Byte) : s.KeepsLaws (s.judgeRun st) := by
  unfold State.judgeRun
  exact ite (fun _ => endDirect ..) fun _ =>
    after (ite (fun _ => enableOrPin _) fun _ => endDirect ..) (setMaint s _)

/-! ### The arbiter and the end of an event -/

theorem hold (op : LinkOp) : s.KeepsLaws (s.hold op) := setLink_same _ rfl rfl

theorem takeDirect (op : LinkOp) : s.KeepsLaws (s.takeDirect op) := (hold s op).trans (setMaint ..)

theorem grantFetch (p : Port) : s.KeepsLaws (s.grantFetch p) := by
  unfold State.grantFetch
  split
  · exact .refl s
  · exact after (issue fun _ => halfword_withinPage _) <|
      after (setReads fun h => h.map fun g => by split <;> rfl) (hold s _)

/-- What the held partner lays over a span or fills into it lies in the page (04 R75). -/
theorem preparedBytes_below {s : State} (hs : s.BytesLawful) (b : Buf) :
    CellsBelow (s.preparedBytes b) Config.pageBytes := by
  have hinside : ∀ x ∈ cellsWithin (s.buf b.other).bytes (cellsFirst (s.buf b).bytes) (cellsLast (s.buf b).bytes),
      x.1 < Config.pageBytes := ((bufBelow hs b.other).filter _).2
  unfold State.preparedBytes
  dsimp only
  split
  · exact bufBelow hs b
  · split
    · exact (bufBelow hs b).lay hinside
    · exact (bufBelow hs b).fill hinside

theorem grantProgram (b : Buf) : s.KeepsLaws (s.grantProgram b) := by
  have hprepared : s.KeepsLaws ((s.hold (.program b)).setBuf b
      { s.buf b with bytes := s.preparedBytes b, retried := false }) :=
    after (setDrain fun hs c => by
      have hs' : s.BytesLawful := ⟨hs.entries, hs.pb0, hs.pb1, hs.wire, hs.queued⟩
      have hbytes := preparedBytes_below hs' b
      cases b <;> cases c
      · exact hbytes
      · exact hs.pb1
      · exact hs.pb0
      · exact hbytes) (hold s _)
  unfold State.grantProgram
  dsimp only
  split
  · exact after (startProgramAttempt ..) <| after (setDrain_marks _ fun c => by cases c <;> rfl) hprepared
  · rename_i hholes
    refine after (issue fun hs => ?_) <| after (setBuf_bytes _ b rfl) <|
      after (setDrain_marks _ fun c => by cases c <;> rfl) hprepared
    refine gapRead_withinPage ?_ hholes _
    have hbuf := bufBelow hs b
    rw [State.setBuf_buf_same] at hbuf
    cases b <;> exact hbuf

theorem grantDirectWrite : s.KeepsLaws s.grantDirectWrite := by
  unfold State.grantDirectWrite
  exact after (ite (fun _ => endDirect ..) fun _ => enableOrPin _) (takeDirect s _)

theorem grant (op : LinkOp) : s.KeepsLaws (s.grant op) := by
  cases op with
  | fetch p => exact grantFetch ..
  | program b => exact grantProgram ..
  | probe => exact after (issue fun _ => trivial) <| after (setControl_same _ rfl rfl rfl rfl) (hold s _)
  | markerRead =>
    exact after (issue fun _ => s.markerRead_withinPage) <| after (setControl_same _ rfl rfl rfl rfl) (hold s _)
  | markerWrite => exact after (grantMarkerWrite _) <| after (setControl_same _ rfl rfl rfl rfl) (hold s _)
  | directId | directStatus => exact after (issue fun _ => trivial) (takeDirect s _)
  | directRead => exact after (issue fun _ => lineRead_withinPage _) (takeDirect s _)
  | directWrite => exact grantDirectWrite s
  | settle k => exact .refl s

theorem grantSettle (k : ReqKind) : s.KeepsLaws (s.grantSettle k) := by
  unfold State.grantSettle
  exact after (issue fun _ => trivial) <| after (setLink_same _ rfl rfl) (hold s _)

theorem decideOnce : s.KeepsLaws s.decideOnce := by
  unfold State.decideOnce
  refine ite (fun _ => .refl s) fun _ => ?_
  split
  · exact .refl s
  · exact ite (fun _ => grantSettle ..) fun _ => grant ..

theorem decide : s.KeepsLaws s.decide := (decideOnce s).trans (decideOnce _)

theorem endPinWait : s.KeepsLaws s.endPinWait := by
  unfold State.endPinWait
  split
  · exact .refl s
  · exact ite (fun _ => after (issue fun _ => trivial) (setLink_same _ rfl rfl)) fun _ => .refl s

theorem endEvent : s.KeepsLaws s.endEvent := by
  unfold State.endEvent
  exact after (tick _) <| after (decide _) <| after (requestMarker _) <| after (judgeFlush _) <| after (endPinWait _)
    (enterHeldBack s)

end

end State.KeepsLaws
end Sys2Proof.Machine
end


section
/-! PROOF. What every command keeps, and the steps' laws (O56, O58). -/
namespace Sys2Proof.Machine

/-! ### The bytes that a take moves -/

theorem Entry.pageCells_lt {e : Entry} (h : CellsBelow e.bytes Config.lineBytes) :
    ∀ x ∈ e.pageCells, x.1 < Config.pageBytes := by
  intro x hx
  obtain ⟨c, hc, rfl⟩ := List.mem_map.mp hx
  have hlt : c.1 < 32 := h.2 c hc
  show e.line % 8 * 32 + c.1 < 256
  omega

theorem layRun_below {run : List Entry} (h : ∀ e ∈ run, CellsBelow e.bytes Config.lineBytes) {c : List Host.Cell}
    (hc : CellsBelow c Config.pageBytes) :
    CellsBelow (run.foldl (fun acc x => cellsLay acc x.pageCells) c) Config.pageBytes := by
  induction run generalizing c with
  | nil => exact hc
  | cons e rest ih =>
    exact ih (fun f hf => h f (List.mem_cons_of_mem _ hf)) (hc.lay (Entry.pageCells_lt (h e List.mem_cons_self)))

theorem bufferOfRun_below {run : List Entry} (h : ∀ e ∈ run, CellsBelow e.bytes Config.lineBytes) (counter : Seq)
    (stamp : Nat) : CellsBelow (bufferOfRun run counter stamp).bytes Config.pageBytes := by
  unfold bufferOfRun
  split
  · exact .nil _
  · exact layRun_below h (.nil _)

theorem mem_of_mem_runOf {page : Nat} {es : List Entry} {e : Entry} (h : e ∈ runOf page es) : e ∈ es := by
  induction es with
  | nil => cases h
  | cons f rest ih =>
    unfold runOf at h
    split at h
    · rcases List.mem_cons.mp h with rfl | h
      · exact List.mem_cons_self
      · exact List.mem_cons_of_mem _ (ih h)
    · cases h

theorem Queue.mem_of_mem_run {q : Queue} {e : Entry} (h : e ∈ q.run) : e ∈ q.entries := by
  unfold Queue.run at h
  split at h
  · cases h
  · rename_i hes
    rw [hes]
    exact mem_of_mem_runOf h

namespace State.KeepsLaws

section
variable (s : State)

theorem takeRun : s.KeepsLaws s.takeRun := by
  unfold State.takeRun
  refine after (ite (fun _ => servePending _) fun _ => .refl _) ?_
  refine after (setDrain_marks _ fun c => by cases c <;> rfl) ?_
  refine after (setQueue (fun h => ?_) fun h => ?_) (setBuf fun hs => ?_)
  · exact (Queue.Lawful.removeRun (by simpa using h)).hwmCheck _
  · exact (Queue.InLine.removeRun (by simpa using h)).hwmCheck _
  · exact bufferOfRun_below (fun e he => hs.entries e (Queue.mem_of_mem_run he)) _ _

theorem fetchDone (p : Port) (lower upper : Byte) : s.KeepsLaws (s.fetchDone p lower upper) := by
  unfold State.fetchDone
  split
  · exact .refl s
  · have hleft := setReads (s := s) fun h =>
      h.filter (held := s.reads.heldBack) fun g => !(g.port == p && g.state == .onLink)
    exact ite (fun _ => hleft) fun _ => after (completeNormal ..) hleft

theorem sawStatus (st : Byte) : s.KeepsLaws (s.sawStatus st) := by
  unfold State.sawStatus
  exact after (setMemory (memWf_sawStatus st _)) (setLink (fun _ => nofun) fun hs => hs.queued)

theorem afterStale : s.KeepsLaws s.afterStale := by
  unfold State.afterStale
  exact setLink (fun hs => hs.queued) fun _ => nofun

theorem settleDone (k : ReqKind) : s.KeepsLaws (s.settleDone k) := by
  unfold State.settleDone
  exact after (ite (fun _ => changeMode _ nofun) fun _ => .refl _) (releaseLink s)

/-- The end of PROBE stops its timer. -/
theorem stopProbe : s.KeepsLaws (s.releaseLink.setControl { s.control with probeTimer := false }) :=
  after (setControl_same _ rfl rfl rfl rfl) (releaseLink s)

theorem settled : s.KeepsLaws s.settled := by
  unfold State.settled
  exact after (enableOrPin _) (setLink_same _ rfl rfl)

theorem pollAgain : s.KeepsLaws s.pollAgain := setLink_same _ rfl rfl

theorem pollEnds : s.KeepsLaws s.pollEnds := setLink_same _ rfl rfl

theorem judgeStatus (op : LinkOp) (st : Byte) : s.KeepsLaws (s.judgeStatus op st) := by
  cases op with
  | program b =>
    exact ite (fun _ => pollAgain s) fun _ => ite (fun _ => settled s) fun _ => after (judgeProgram ..) (pollEnds s)
  | markerWrite =>
    exact ite (fun _ => pollAgain s) fun _ => ite (fun _ => settled s) fun _ => after (judgeMarker ..) (pollEnds s)
  | directWrite => exact ite (fun _ => pollAgain s) fun _ => after (judgeRun ..) (pollEnds s)
  | probe => exact ite (fun _ => pollAgain s) fun _ => after (startupNext ..) (stopProbe s)
  | settle k => exact ite (fun _ => pollAgain s) fun _ => settleDone ..
  | fetch | markerRead | directId | directStatus | directRead => exact .refl s

theorem probeSilent : s.KeepsLaws s.probeSilent := by
  unfold State.probeSilent
  exact after (startupFailed ..) (stopProbe s)

theorem placeReport (bytes : List Byte) : s.KeepsLaws (s.placeReport bytes) := by
  unfold State.placeReport
  exact after (startupNext ..) <| after (ite (fun _ => addFault ..) fun _ => .refl _)
    (setControl_same s rfl rfl rfl rfl)

theorem onAssertion : s.KeepsLaws s.onAssertion := by
  unfold State.onAssertion
  cases s.control.mode with
  | running | applying => exact enterPfDrain s
  | starting => exact ite (fun _ => setControl_same s rfl rfl rfl rfl) fun _ => changeMode s nofun
  | resuming => exact ite (fun _ => .refl s) fun _ => enterPfDrain s
  | pfDrain => exact setControl_same s rfl rfl rfl rfl
  | pfDone | failed => exact .refl s

theorem onRelease : s.KeepsLaws s.onRelease := by
  unfold State.onRelease
  cases s.control.mode with
  | pfDrain => exact ite (fun _ => setControl_same s rfl rfl rfl rfl) fun _ => changeMode s nofun
  | pfDone => exact changeMode s fun h => by split at h <;> cases h
  | starting => exact setControl_same s rfl rfl rfl rfl
  | running | applying | resuming | failed => exact .refl s

theorem acceptDirect (k : LongKind) (line : BitVec 24) (flags : BitVec 32) (data : List Byte) :
    s.KeepsLaws (s.acceptDirect k line flags data) := by
  unfold State.acceptDirect
  exact after (respond ..) (setMaint ..)

theorem acceptApply (h : s.shadow.firstBad = none) : s.KeepsLaws s.acceptApply := by
  unfold State.acceptApply
  exact after (changeMode _ fun _ => h) <| after (closeAll (s.setMaint { s.maint with slot := .apply })) (setMaint ..)

theorem acceptFlush : s.KeepsLaws s.acceptFlush := by
  unfold State.acceptFlush
  exact after (closeAll _) <| after (setControl_same _ rfl rfl rfl rfl) (setMaint ..)

theorem retryBuffer (b : Buf) : s.KeepsLaws (s.retryBuffer b) := setBuf_bytes s b rfl

theorem releaseBuffer (b : Buf) : s.KeepsLaws (s.releaseBuffer b) := by
  unfold State.releaseBuffer
  exact after (judgeApply _) <| after (addFault ..) <|
    after (ite (fun _ => setDrain_marks _ fun c => by cases c <;> rfl) fun _ => .refl _) <| after (freeBuf ..)
      (ite (fun _ => setControl_same s rfl rfl rfl rfl) fun _ => .refl s)

/-- A gap read's bytes come from one page, so they stay in the page of their buffer (04 R76). -/
theorem takeGap {b : Buf} {addr len : Nat} {bytes : List Byte} (hw : s.link.wire = some (.readData addr len))
    (hlen : bytes.length = len) :
    s.KeepsLaws ((s.setLink s.link.wireDone).setBuf b ((s.buf b).takeGap addr bytes)) := by
  have hcomm : (s.setLink s.link.wireDone).setBuf b ((s.buf b).takeGap addr bytes)
      = (s.setBuf b ((s.buf b).takeGap addr bytes)).setLink s.link.wireDone := by cases b <;> rfl
  rw [hcomm]
  refine after (setLink (fun _ => nofun) fun hs => ?_) (setBuf fun hs => (bufBelow hs b).fill fun x hx => ?_)
  · simpa [Link.wireDone] using hs.queued
  · have hpage : addr % Config.pageBytes + len ≤ Config.pageBytes := hs.wire _ hw
    have hx' := (mem_cellsAt hx).2
    omega

end

end State.KeepsLaws

/-! ### The commands -/

open State.KeepsLaws in
/-- Every command but the two of RSTn keeps every law: its guards leave the state as it is, and the work it does under
them is made of operations that keep them. -/
theorem exec_keepsLaws {c : Instr} {s : State} (hfall : c ≠ .rstnFall) (hrise : ∀ a b d e f g, c ≠ .rstnRise a b d e f g) :
    ∃ t, exec c s = .next t ∧ s.KeepsLaws t := by
  cases c with
  | rstnFall => exact absurd rfl hfall
  | rstnRise => exact absurd rfl (hrise _ _ _ _ _ _)
  | hostAccessBegin =>
    exact ⟨_, rfl, ite (fun _ => .refl s) fun _ => ite (fun _ => tick s) fun _ => after (endEvent _) (beginAccess ..)⟩
  | hostAccessEnd => exact ⟨_, rfl, ite (fun _ => setPort ..) fun _ => .refl s⟩
  | withdrawal => exact ⟨_, rfl, ite (fun _ => after (endEvent _) (withdrawWait ..)) fun _ => .refl s⟩
  | stallTimerExpiry => exact ⟨_, rfl, ite (fun _ => after (endEvent _) (expireWait ..)) fun _ => .refl s⟩
  | windowTimerExpiry line =>
    exact ⟨_, rfl, ite (fun _ => setQueue (fun h => h.closeLine _) fun h => h.closeLine _) fun _ => .refl s⟩
  | takeRun => exact ⟨_, rfl, ite (fun _ => after (endEvent _) (takeRun s)) fun _ => .refl s⟩
  | slotArbiterServe => exact ⟨_, rfl, ite (fun _ => after (endEvent _) (servePending s)) fun _ => .refl s⟩
  | portModeChange => exact ⟨_, rfl, ite (fun _ => after (endEvent _) (actOnMode s)) fun _ => .refl s⟩
  | heldBackFetchEntry => exact ⟨_, rfl, ite (fun _ => after (endEvent _) (enterHeldBack s)) fun _ => .refl s⟩
  | arbiterDecision => exact ⟨_, rfl, ite (fun _ => after (tick _) (decide s)) fun _ => .refl s⟩
  | fetchCompletion =>
    refine ⟨_, rfl, ?_⟩
    split
    · exact after (endEvent _) <| after (fetchDone ..) <| after (releaseLink _) (wireDone s)
    · exact .refl s
  | gapReadCompletion bytes =>
    refine ⟨_, rfl, ?_⟩
    split
    · rename_i len _ _ hw
      refine ite (fun h => ?_) fun _ => .refl s
      have hlen : bytes.length = len := by simpa using (Bool.and_eq_true_iff.mp h).2
      exact after (endEvent _) <| after (startProgramAttempt ..) (takeGap s hw hlen)
    · exact .refl s
  | writeEnableCompletion =>
    refine ⟨_, rfl, ite (fun _ => ?_) fun _ => .refl s⟩
    exact after (endEvent _) <| after (issuePageWrite _) <| after
      (setMemory fun h => by simpa [SerialMemory.writeEnable_cells] using h) (wireDone s)
  | pageWriteCompletion =>
    refine ⟨_, rfl, ?_⟩
    split
    · exact after (setMemory fun h => by simpa [SerialMemory.pageWrite_cells] using h)
        (setLink (fun _ => nofun) fun h => h.queued)
    · exact .refl s
  | pollIntervalExpiry =>
    exact ⟨_, rfl, ite (fun _ => after (issue fun _ => trivial) (setLink_same _ rfl rfl)) fun _ => .refl s⟩
  | readStatusCompletion =>
    refine ⟨_, rfl, ite (fun _ => ite (fun _ => ?_) fun _ => ?_) fun _ => .refl s⟩
    · exact after (endEvent _) <| after (afterStale _) (sawStatus ..)
    · split
      · exact ite (fun _ => after (endEvent _) <| after (judgeStatus ..) (sawStatus ..)) fun _ => .refl s
      · exact .refl s
  | verifyReadCompletion =>
    refine ⟨_, rfl, ?_⟩
    split
    · exact ite (fun _ => after (endEvent _) <|
        after (ite (fun _ => programSuccess ..) fun _ => attemptFailed ..) (wireDone s)) fun _ => .refl s
    · exact ite (fun _ => after (endEvent _) <|
        after (ite (fun _ => markerSuccess _) fun _ => markerAttemptFailed ..) (wireDone s)) fun _ => .refl s
    · exact .refl s
  | throughWaiterOutcome => exact ⟨_, rfl, ite (fun _ => throughOutcome ..) fun _ => .refl s⟩
  | programTimerExpiry =>
    refine ⟨_, rfl, ite (fun _ => ?_) fun _ => .refl s⟩
    split
    · exact after (endEvent _) <| after (attemptFailed ..) (timedOut s)
    · exact after (endEvent _) <| after (markerAttemptFailed ..) (timedOut s)
    · exact after (endEvent _) <| after (endDirect ..) (timedOut s)
    · exact .refl s
  | settleLimitExpiry =>
    refine ⟨_, rfl, ?_⟩
    split
    · exact after (endEvent _) <| after (settleDone ..) (abandon s)
    · exact .refl s
  | pinWaitEnd => exact ⟨_, rfl, ite (fun _ => endPinWait s) fun _ => .refl s⟩
  | directWaitLimitExpiry =>
    exact ⟨_, rfl, ite (fun _ => after (endEvent _) <| after (completeLong ..) (setMaint ..)) fun _ => .refl s⟩
  | directIdCompletion =>
    exact ⟨_, rfl, ite (fun _ => after (endEvent _) <| after (endDirect ..) (wireDone s)) fun _ => .refl s⟩
  | directStatusCompletion =>
    exact ⟨_, rfl, ite (fun _ => after (endEvent _) <| after (endDirect ..) (sawStatus ..)) fun _ => .refl s⟩
  | directReadCompletion =>
    refine ⟨_, rfl, ?_⟩
    split
    · exact ite (fun _ => after (endEvent _) <| after (endDirect ..) (wireDone s)) fun _ => .refl s
    · exact .refl s
  | probeReadIdCompletion =>
    refine ⟨_, rfl, ite (fun _ => ite (fun _ => ?_) fun _ => ite (fun _ => ?_) fun _ => .refl s) fun _ => .refl s⟩
    · exact after (endEvent _) <| after (afterStale _) (wireDone s)
    · exact after (endEvent _) <|
        after (ite (fun _ => probeSilent _) fun _ => issue fun _ => trivial) (wireDone s)
  | probeBusyTimerExpiry =>
    exact ⟨_, rfl, ite (fun _ => after (endEvent _) <| after (startupFailed ..) <|
      after (stopProbe _) (abandon s)) fun _ => .refl s⟩
  | markerReadCompletion =>
    refine ⟨_, rfl, ?_⟩
    split
    · exact ite (fun _ => after (endEvent _) <| after (placeReport ..) <| after (releaseLink _) (wireDone s))
        fun _ => .refl s
    · exact .refl s
  | pfailnFall =>
    refine ⟨_, rfl, ite (fun _ => .refl s) fun _ => setControl (fun _ => ?_) fun h => .inl h⟩
    cases s.control.filtered <;> rfl
  | pfailnRise =>
    refine ⟨_, rfl, ite (fun _ => setControl (fun _ => ?_) fun h => .inl h) fun _ => .refl s⟩
    cases s.control.filtered <;> rfl
  | filteredAssertion =>
    refine ⟨_, rfl, ite (fun h => ?_) fun _ => .refl s⟩
    have hlow : s.control.pfailLow = true := by simp at h; exact h.1.2
    exact after (endEvent _) <| after (onAssertion _) (setControl (fun _ => by simp [hlow]) fun h => .inl h)
  | filteredRelease =>
    refine ⟨_, rfl, ite (fun h => ?_) fun _ => .refl s⟩
    have hhigh : s.control.pfailLow = false := by simp at h; exact h.1.2
    exact after (endEvent _) <| after (onRelease _) (setControl (fun _ => by simp [hhigh]) fun h => .inl h)
  | frameCutShort | ssnRiseAfterReset => exact ⟨_, rfl, ite (fun _ => setMaint ..) fun _ => .refl s⟩
  | unknownCommand | status | readMarkerReport | readCounters =>
    exact ⟨_, rfl, ite (fun _ => respond ..) fun _ => .refl s⟩
  | result =>
    refine ⟨_, rfl, ite (fun _ => ?_) fun _ => .refl s⟩
    split
    · exact after (setMaint ..) (respond ..)
    · exact respond ..
  | readFault =>
    refine ⟨_, rfl, ite (fun _ => ?_) fun _ => .refl s⟩
    split
    · exact respond ..
    · rename_i r rest hlist
      refine after (respond ..) (setFaults fun h => ⟨?_, ?_⟩)
      · have hfits := h.fits
        rw [hlist] at hfits
        exact Nat.le_of_succ_le hfits
      · cases rest <;> simp
  | clearCounters =>
    exact ⟨_, rfl, ite (fun _ => after (respond ..) <| after (setMaint ..) (setCounters s {})) fun _ => .refl s⟩
  | setIrqMask =>
    exact ⟨_, rfl, ite (fun _ => after (respond ..) (setFaults fun h => ⟨h.fits, h.beside⟩)) fun _ => .refl s⟩
  | readActive | readShadow =>
    exact ⟨_, rfl, ite (fun _ => ite (fun _ => respond ..) fun _ => respond ..) fun _ => .refl s⟩
  | writeShadow =>
    refine ⟨_, rfl, ite (fun _ => ite (fun _ => respond ..) fun _ => ite (fun _ => respond ..) fun h => ?_)
      fun _ => .refl s⟩
    exact after (respond ..) (setShadow fun _ hm => absurd hm (by simpa using h))
  | revertShadow =>
    refine ⟨_, rfl, ite (fun _ => ite (fun _ => respond ..) fun _ => ?_) fun _ => .refl s⟩
    exact after (respond ..) (setShadow fun hs _ => hs.active)
  | apply =>
    refine ⟨_, rfl, ite (fun _ => ?_) fun _ => .refl s⟩
    split
    · exact respond ..
    · refine ite (fun _ => respond ..) fun _ => ite (fun _ => respond ..) fun _ => ?_
      split
      · exact respond ..
      · rename_i hvalid; exact after (endEvent _) <| after (respond ..) (acceptApply s hvalid)
  | applyCompletion =>
    refine ⟨_, rfl, ite (fun h => ?_) fun _ => .refl s⟩
    exact after (endEvent _) (completeApply s (by simp at h; exact h.1.2))
  | flush =>
    refine ⟨_, rfl, ite (fun _ => ?_) fun _ => .refl s⟩
    split
    · exact respond ..
    · exact ite (fun _ => respond ..) fun _ => after (endEvent _) <| after (respond ..) (acceptFlush s)
  | flushCompletion => exact ⟨_, rfl, ite (fun _ => judgeFlush s) fun _ => .refl s⟩
  | directId | directStatus | directRead | directWrite =>
    refine ⟨_, rfl, ite (fun _ => ?_) fun _ => .refl s⟩
    split
    · exact respond ..
    · exact after (endEvent _) (acceptDirect ..)
  | retryHeld =>
    refine ⟨_, rfl, ite (fun _ => ?_) fun _ => .refl s⟩
    split
    · exact respond ..
    · exact ite (fun _ => after (endEvent _) <| after (respond ..) (retryBuffer ..)) fun _ => respond ..
  | releaseHeld =>
    refine ⟨_, rfl, ite (fun _ => ?_) fun _ => .refl s⟩
    split
    · exact respond ..
    · exact ite (fun _ => after (endEvent _) <| after (respond ..) (releaseBuffer ..)) fun _ => respond ..
  | reprobe =>
    refine ⟨_, rfl, ite (fun _ => ite (fun _ => ?_) fun _ => respond ..) fun _ => .refl s⟩
    exact after (endEvent _) <| after (respond ..) (changeMode s fun h => by split at h <;> cases h)

/-! ### The two commands of RSTn -/

theorem ConfigSet.firstBad_coldReset (st : Straps) : (ConfigSet.coldReset st).firstBad = none := by
  obtain ⟨_ | _, _ | _, _ | _⟩ := st <;> decide

/-- What holds of a state whose blocks stand at their cold-reset values, whatever the serial memory and the pin. -/
structure State.MeetsLaws (s : State) : Prop where
  faults : s.faults.Lawful
  config : s.ConfigLawful
  reads : s.reads.Lawful
  filter : s.FilterLawful
  queue : s.queue.Lawful
  bytes : s.BytesLawful

theorem State.MeetsLaws.keep {s t : State} (h : s.MeetsLaws) (k : s.KeepsLaws t) : t.MeetsLaws :=
  ⟨k.faults h.faults, k.config h.config, k.reads h.reads, k.filter h.filter, k.queue h.queue, k.bytes h.bytes⟩

theorem State.coldReset_meetsLaws (s : State) (m : SerialMemory) : (s.coldReset m).MeetsLaws where
  faults := ⟨Nat.zero_le _, absurd rfl⟩
  config := ⟨ConfigSet.firstBad_coldReset _, nofun⟩
  reads := ⟨.nil⟩
  filter := rfl
  queue := ⟨Nat.zero_le _, .nil, nofun⟩
  bytes := ⟨nofun, .nil _, .nil _, nofun, nofun⟩

theorem State.riseReset_meetsLaws (s : State) (st : Straps) (a b ssn : Bool) : (s.riseReset st a b ssn).MeetsLaws where
  faults := ⟨Nat.zero_le _, absurd rfl⟩
  config := ⟨ConfigSet.firstBad_coldReset _, nofun⟩
  reads := ⟨.nil⟩
  filter := (Bool.xor_false _).symm
  queue := ⟨Nat.zero_le _, .nil, nofun⟩
  bytes := ⟨nofun, .nil _, .nil _, nofun, nofun⟩

section
variable {s : State}

theorem exec_rstnRise (hr : s.rstn = false) (size1 size0 dclass a b ssn : Bool) :
    exec (.rstnRise size1 size0 dclass a b ssn) s = .next (s.riseReset ⟨size1, size0, dclass⟩ a b ssn).endEvent :=
  congrArg Host.Outcome.next (if_neg (by simp [hr]))

end

/-- A command is the fall of RSTn, its rise, or one that keeps every law. -/
theorem exec_cases {c : Instr} {s t : State} (he : exec c s = .next t) :
    s.KeepsLaws t ∨ (s.rstn = true ∧ t = s.coldReset (s.memory.cut s.link.wire s.now))
      ∨ ∃ st a b ssn, s.rstn = false ∧ t = (s.riseReset st a b ssn).endEvent := by
  by_cases hfall : c = .rstnFall
  · subst hfall
    cases hr : s.rstn with
    | true => rw [exec_rstnFall hr] at he; exact .inr (.inl ⟨rfl, (Host.Outcome.next.inj he).symm⟩)
    | false =>
      obtain rfl : s = t := (if_neg (by simp [hr])).symm.trans (Host.Outcome.next.inj he)
      exact .inl (.refl s)
  by_cases hrise : ∃ a b d e f g, c = .rstnRise a b d e f g
  · obtain ⟨a, b, d, e, f, g, rfl⟩ := hrise
    cases hr : s.rstn with
    | false => rw [exec_rstnRise hr] at he; exact .inr (.inr ⟨_, _, _, _, rfl, (Host.Outcome.next.inj he).symm⟩)
    | true =>
      obtain rfl : s = t := (if_pos hr).symm.trans (Host.Outcome.next.inj he)
      exact .inl (.refl s)
  · obtain ⟨t', he', hkeep⟩ := exec_keepsLaws (s := s) hfall fun a b d e f g h => hrise ⟨a, b, d, e, f, g, h⟩
    obtain rfl : t' = t := Host.Outcome.next.inj (he'.symm.trans he)
    exact .inl hkeep

theorem State.riseReset_memory (s : State) (st : Straps) (a b ssn : Bool) :
    (s.riseReset st a b ssn).endEvent.memory = s.memory := by
  rw [(State.endEvent_frame _).2.2.2.2.2.2.2.1]; rfl

/-- What a step does: the front command on the queue's rest, or nothing. -/
theorem step_cases {s t : State} (h : step s = .next t) :
    t = s ∨ ∃ c rest, exec c (s.setPending rest) = .next t := by
  unfold step at h
  split at h
  · exact .inl (Host.Outcome.next.inj h).symm
  · exact .inr ⟨_, _, h⟩

/-- Whatever a step does, it keeps the laws of the blocks or leaves them as a reset does. -/
theorem step_keepsLaws {s t : State} (h : step s = .next t) :
    s.KeepsLaws t ∨ t.MeetsLaws ∧ (memWf s.memory.cells = true → memWf t.memory.cells = true) := by
  rcases step_cases h with rfl | ⟨c, rest, he⟩
  · exact .inl (.refl _)
  · rcases exec_cases he with hkeep | ⟨-, rfl⟩ | ⟨st, a, b, ssn, -, rfl⟩
    · exact .inl ((State.KeepsLaws.setPending s rest).trans hkeep)
    · exact .inr ⟨State.coldReset_meetsLaws _ _, fun hm => by simpa [State.coldReset, SerialMemory.cut_cells] using hm⟩
    · exact .inr ⟨(State.riseReset_meetsLaws _ _ _ _ _).keep (.endEvent _),
        fun hm => by rw [State.riseReset_memory]; exact hm⟩

/-- Settles O56: the queue and the bytes are blocks of `State.KeepsLaws`. -/
theorem stepKeepsQueueAndBytes : Obligations.StepKeepsQueueAndBytes := by
  intro s t hq hb h
  rcases step_keepsLaws h with hkeep | ⟨hmeets, -⟩
  · exact ⟨hkeep.queue hq, hkeep.bytes hb⟩
  · exact ⟨hmeets.queue, hmeets.bytes⟩

/-! ### While RSTn is low -/

section
variable {s : State}

theorem exec_pfailnFall (hr : s.rstn = false) : exec .pfailnFall s = .next (if s.control.pfailLow then s
    else s.setControl { s.control with pfailLow := true, filterTimer := false }) := by
  show execPfailnFall s = _
  simp [execPfailnFall, hr]

theorem exec_pfailnRise (hr : s.rstn = false) : exec .pfailnRise s = .next (if s.control.pfailLow
    then s.setControl { s.control with pfailLow := false, filterTimer := false } else s) := by
  show execPfailnRise s = _
  simp [execPfailnRise, hr]

theorem State.takesFrames_eq_false (hr : s.rstn = false) : s.takesFrames = false := by simp [State.takesFrames, hr]

/-- Every other command is guarded by RSTn, the maintenance commands through the frame that carries them. -/
theorem exec_low {c : Instr} (hr : s.rstn = false) (hf : c ≠ .pfailnFall) (hp : c ≠ .pfailnRise)
    (hrise : ∀ a b d e f g, c ≠ .rstnRise a b d e f g) : exec c s = .next s := by
  have hframes := State.takesFrames_eq_false hr
  cases c with
  | pfailnFall => exact absurd rfl hf
  | pfailnRise => exact absurd rfl hp
  | rstnRise => exact absurd rfl (hrise _ _ _ _ _ _)
  | hostAccessBegin => exact congrArg Host.Outcome.next (if_pos (by simp [hr]))
  | fetchCompletion => simp [exec, execFetchCompletion, hr]
  | gapReadCompletion => simp [exec, execGapReadCompletion, hr]
  | pageWriteCompletion => simp [exec, execPageWriteCompletion, hr]
  | verifyReadCompletion => simp [exec, execVerifyReadCompletion, hr]
  | settleLimitExpiry => simp [exec, execSettleLimitExpiry, hr]
  | directReadCompletion => simp [exec, execDirectReadCompletion, hr]
  | markerReadCompletion => simp [exec, execMarkerReadCompletion, hr]
  | hostAccessEnd | withdrawal | stallTimerExpiry | windowTimerExpiry | takeRun | slotArbiterServe | portModeChange
  | heldBackFetchEntry | arbiterDecision | writeEnableCompletion | pollIntervalExpiry | readStatusCompletion
  | throughWaiterOutcome | programTimerExpiry | pinWaitEnd | directWaitLimitExpiry | directIdCompletion
  | directStatusCompletion | probeReadIdCompletion | probeBusyTimerExpiry | filteredAssertion | filteredRelease
  | rstnFall | applyCompletion | flushCompletion | ssnRiseAfterReset =>
    exact congrArg Host.Outcome.next (if_neg (by simp [hr]))
  | frameCutShort | unknownCommand | status | result | readMarkerReport | readFault | readCounters | clearCounters
  | setIrqMask | readActive | readShadow | writeShadow | revertShadow | apply | flush | directId | directStatus
  | directRead | directWrite | retryHeld | releaseHeld | reprobe =>
    exact congrArg Host.Outcome.next (if_neg (by simp [hframes]))

/-- While RSTn stays low the blocks stay at their cold-reset values, and its fall puts them there. -/
theorem exec_heldInReset {c : Instr} {t : State} (he : exec c s = .next t) (h : s.HeldInReset) : t.HeldInReset := by
  intro ht
  rcases exec_cases he with hkeep | ⟨-, rfl⟩ | ⟨st, a, b, ssn, -, rfl⟩
  · have hr : s.rstn = false := hkeep.rstn ▸ ht
    by_cases hf : c = .pfailnFall
    · subst hf
      rw [exec_pfailnFall hr] at he
      obtain rfl := Host.Outcome.next.inj he
      obtain ⟨h1, h2, h3, h4, h5, h6, h7, h8⟩ := h hr
      split
      · exact ⟨h1, h2, h3, h4, h5, h6, h7, h8⟩
      · have htimer : s.control.filterTimer = false := congrArg Control.filterTimer h7
        exact ⟨h1, h2, h3, h4, h5, h6, by simpa [← htimer] using h7, h8⟩
    by_cases hp : c = .pfailnRise
    · subst hp
      rw [exec_pfailnRise hr] at he
      obtain rfl := Host.Outcome.next.inj he
      obtain ⟨h1, h2, h3, h4, h5, h6, h7, h8⟩ := h hr
      split
      · have htimer : s.control.filterTimer = false := congrArg Control.filterTimer h7
        exact ⟨h1, h2, h3, h4, h5, h6, by simpa [← htimer] using h7, h8⟩
      · exact ⟨h1, h2, h3, h4, h5, h6, h7, h8⟩
    by_cases hrise : ∃ a b d e f g, c = .rstnRise a b d e f g
    · obtain ⟨a, b, d, e, f, g, rfl⟩ := hrise
      rw [exec_rstnRise hr] at he
      obtain rfl := Host.Outcome.next.inj he
      rw [(State.endEvent_frame _).1] at ht
      cases ht
    · rw [exec_low hr hf hp fun a b d e f g h => hrise ⟨a, b, d, e, f, g, h⟩] at he
      obtain rfl := Host.Outcome.next.inj he
      exact h hr
  · exact ⟨rfl, rfl, rfl, rfl, rfl, rfl, rfl, rfl, rfl, rfl, rfl⟩
  · rw [(State.endEvent_frame _).1] at ht
    cases ht

end

theorem step_heldInReset {s t : State} (h : step s = .next t) (hs : s.HeldInReset) : t.HeldInReset := by
  rcases step_cases h with rfl | ⟨c, rest, he⟩
  · exact hs
  · exact exec_heldInReset he hs

/-- Settles O3: every command but the pin's and the rise of RSTn is guarded by RSTn (`exec_low`). -/
theorem nothingMovesInReset : Obligations.NothingMovesInReset := by
  intro s c hr
  refine ⟨?_, ?_, exec_low hr⟩
  · rintro rfl; exact exec_pfailnFall hr
  · rintro rfl; exact exec_pfailnRise hr

/-- Settles O58: each law is a block of `State.KeepsLaws`, but for the state in reset, which only the fall of RSTn and the
pin's commands reach. -/
theorem stepKeepsBookkeeping : Obligations.StepKeepsBookkeeping := by
  intro s t h
  have hreset := step_heldInReset h
  rcases step_keepsLaws h with hkeep | ⟨hmeets, hmem⟩
  · exact ⟨hkeep.faults, hkeep.config, hkeep.reads, hreset, hkeep.filter, hkeep.memory⟩
  · exact ⟨fun _ => hmeets.faults, fun _ => hmeets.config, fun _ => hmeets.reads, hreset, fun _ => hmeets.filter, hmem⟩

end Sys2Proof.Machine
end


section
/-! PROOF. The discipline of the memory link (05 R97 to R102, R109; log 13).  Between two memory operations of its holder
the link is `Link.Ready`: nothing of the holder's is on the wire, behind it or timed.  A completion leaves it so, and what
the sequencer does next from there, an issue, a pin wait, the settling of an attempt or the release, meets the law. -/
namespace Sys2Proof.Machine

/-! ### The link alone -/

/-- Nothing of the holder's is on the wire or awaited; a READ-ID or READ-STATUS of an earlier holder may be on the wire. -/
structure Link.Ready (l : Link) : Prop where
  idle : l.wire = none ∨ l.stale = true
  queued : l.queued = none
  pollWait : l.pollWait = false
  pinWait : l.pinWait = false
  settling : l.settling = false
  programTimer : l.programTimer = none
  leftOver : l.stale = true → ∃ op, l.wire = some op ∧ op.mayBeLeft = true

theorem MemOp.not_needsQuiet {op : MemOp} (h : op.mayBeLeft = true) : op.needsQuiet = false := by
  cases op with
  | readId | readStatus => rfl
  | writeEnable | pageWrite | readData => cases h

section
variable {l : Link} {op : MemOp}

theorem Link.Ready.left (h : l.Ready) (hw : l.wire = some op) : op.mayBeLeft = true := by
  rcases h.idle with hn | hs
  · rw [hn] at hw; cases hw
  · obtain ⟨op', hop, hleft⟩ := h.leftOver hs
    rw [hw] at hop
    exact Option.some.inj hop ▸ hleft

theorem Link.Ready.lawful (h : l.Ready) (hfree : l.holder = none → l.settleTimer = false) : l.Lawful where
  wireQuiet op hw hq := by rw [MemOp.not_needsQuiet (h.left hw)] at hq; cases hq
  queuedQuiet op hw := by rw [h.queued] at hw; cases hw
  queuedBehind hq := by rw [h.queued] at hq; cases hq
  queuedKind addr data hq := by rw [h.queued] at hq; cases hq
  leftOver := h.leftOver
  free hn := ⟨h.idle, h.queued, h.pollWait, h.pinWait, h.settling, h.programTimer, hfree hn⟩
  polling hp := by rw [h.pollWait] at hp; cases hp
  pinWaiting hp := by rw [h.pinWait] at hp; cases hp
  timing ht := by rw [h.programTimer] at ht; cases ht
  settling hs := by rw [h.settling] at hs; cases hs
  settle k _ := ⟨.inl h.queued, h.idle.elim .inl fun hs => .inr (.inr hs)⟩
  probe _ := ⟨.inl h.queued, fun _ => h.left⟩

theorem Link.Lawful.ready_of_free (h : l.Lawful) (hn : l.holder = none) : l.Ready := by
  obtain ⟨hidle, hqueued, hpoll, hpin, hsettling, htimer, -⟩ := h.free hn
  exact ⟨hidle, hqueued, hpoll, hpin, hsettling, htimer, h.leftOver⟩

/-- A READ-ID or READ-STATUS alone may stand on the wire while nothing is QUIET, so a link that awaits another operation has
it on the wire as its own. -/
theorem Link.Lawful.not_stale (h : l.Lawful) (hw : l.wire = some op) (hop : op.mayBeLeft = false) : l.stale = false := by
  refine Bool.eq_false_iff.mpr fun hs => ?_
  obtain ⟨op', hop', hleft⟩ := h.leftOver hs
  rw [hw] at hop'
  rw [Option.some.inj hop', hleft] at hop
  cases hop

theorem Link.Lawful.queued_none (h : l.Lawful) (hs : l.stale = false) : l.queued = none := by
  refine Option.not_isSome_iff_eq_none.mp fun hq => ?_
  rw [h.queuedBehind hq] at hs
  cases hs

/-- While the holder's own operation is on the wire no wait of the sequencer runs but the two of polling. -/
theorem Link.Lawful.waits (h : l.Lawful) (hw : l.wire = some op) (hs : l.stale = false) :
    l.queued = none ∧ l.pollWait = false ∧ l.pinWait = false := by
  refine ⟨h.queued_none hs, Bool.eq_false_iff.mpr fun hp => ?_, Bool.eq_false_iff.mpr fun hp => ?_⟩
  · rw [h.polling hp] at hw; cases hw
  · rcases (h.pinWaiting hp).1 with hn | hs'
    · rw [hn] at hw; cases hw
    · rw [hs] at hs'; cases hs'

/-- The completion of an operation that is no READ-STATUS leaves nothing awaited. -/
theorem Link.Lawful.wireDone_ready (h : l.Lawful) (hw : l.wire = some op) (hs : l.stale = false) (hop : op ≠ .readStatus) :
    l.wireDone.Ready := by
  obtain ⟨hqueued, hpoll, hpin⟩ := h.waits hw hs
  refine ⟨.inl rfl, hqueued, hpoll, hpin, Bool.eq_false_iff.mpr fun hp => ?_,
    Option.not_isSome_iff_eq_none.mp fun ht => ?_, fun hs' => ?_⟩
  · have := (h.settling hp).2.2
    simp_all
  · have := (h.timing ht).2
    simp_all
  · exact absurd (hs.symm.trans hs') nofun

/-- An operation is issued from a link that awaits nothing. -/
theorem Link.Ready.issue (h : l.Ready) (hh : l.holder ≠ none) (hq : op.needsQuiet = true → l.quiet = true)
    (hkind : ∀ addr data, op = .pageWrite addr data → l.wire = none)
    (hsettle : ∀ k, l.holder = some (.settle k) → op = .readStatus)
    (hprobe : l.holder = some .probe → op = .readId ∨ (l.wire = none ∧ op.mayBeLeft = true)) : (l.issue op).Lawful := by
  obtain ⟨hidle, hqueued, hpoll, hpin, hsettling, htimer, hleft⟩ := h
  unfold Link.issue
  split
  · rename_i hw
    have hw : l.wire = none := by simpa using hw
    have hstale : l.stale = false := Bool.eq_false_iff.mpr fun hs => by
      obtain ⟨_, hop, -⟩ := hleft hs
      rw [hw] at hop
      cases hop
    exact {
      wireQuiet := fun _ hop => Option.some.inj hop ▸ hq
      queuedQuiet := by simp [hqueued]
      queuedBehind := by simp [hqueued]
      queuedKind := by simp [hqueued]
      leftOver := by simp [hstale]
      free := fun hn => absurd hn hh
      polling := by simp [hpoll]
      pinWaiting := by simp [hpin]
      timing := by simp [htimer]
      settling := by simp [hsettling]
      settle := fun k hk => ⟨.inl hqueued, .inr (.inl (congrArg some (hsettle k hk)))⟩
      probe := fun hp => ⟨.inl hqueued, fun _ hop => Option.some.inj hop ▸
        (hprobe hp).elim (fun h => h ▸ rfl) And.right⟩ }
  · rename_i hw
    have hw : l.wire ≠ none := by simpa using hw
    have hstale : l.stale = true := hidle.resolve_left hw
    obtain ⟨left, hwire, hmay⟩ := hleft hstale
    exact {
      wireQuiet := fun op' hop hq' => by
        rw [hwire] at hop
        rw [← Option.some.inj hop, MemOp.not_needsQuiet hmay] at hq'
        cases hq'
      queuedQuiet := fun _ hop => Option.some.inj hop ▸ hq
      queuedBehind := fun _ => hstale
      queuedKind := fun addr data hop => hw (hkind addr data (Option.some.inj hop))
      leftOver := hleft
      free := fun hn => absurd hn hh
      polling := by simp [hpoll]
      pinWaiting := by simp [hpin]
      timing := by simp [htimer]
      settling := by simp [hsettling]
      settle := fun k hk => ⟨.inr (congrArg some (hsettle k hk)), .inr (.inr hstale)⟩
      probe := fun hp => ⟨.inr (congrArg some ((hprobe hp).resolve_right fun h => hw h.1)),
        fun _ hop => by rw [hwire] at hop; exact Option.some.inj hop ▸ hmay⟩ }

/-- The link operations that write to the memory, and so wait for pins (05 R109). -/
def Link.Writes (l : Link) : Prop :=
  (∃ b, l.holder = some (.program b)) ∨ l.holder = some .markerWrite ∨ l.holder = some .directWrite

theorem Link.Writes.held (h : l.Writes) : l.holder ≠ none := by
  rcases h with ⟨b, h⟩ | h | h <;> simp [h]

theorem Link.Writes.not_settle (h : l.Writes) (k : ReqKind) : l.holder ≠ some (.settle k) := by
  rcases h with ⟨b, h⟩ | h | h <;> simp [h]

theorem Link.Writes.not_probe (h : l.Writes) : l.holder ≠ some .probe := by
  rcases h with ⟨b, h⟩ | h | h <;> simp [h]

/-- An operation that writes issues what it needs from a link that awaits nothing. -/
theorem Link.Ready.issue_write (h : l.Ready) (hh : l.Writes) (hq : op.needsQuiet = true → l.quiet = true)
    (hkind : ∀ addr data, op = .pageWrite addr data → l.wire = none) : (l.issue op).Lawful :=
  h.issue hh.held hq hkind (fun k hk => absurd hk (hh.not_settle k)) fun hp => absurd hp hh.not_probe

theorem Link.Ready.pin (h : l.Ready) (hh : l.Writes) (hq : l.quiet = true) : Link.Lawful { l with pinWait := true } :=
  have hl := h.lawful fun hn => absurd hn hh.held
  { hl with
    free := fun hn => absurd hn hh.held
    pinWaiting := fun _ => ⟨h.idle, h.queued, h.pollWait, hq, h.settling, h.programTimer⟩ }

/-- A pin wait is the state of a link that awaits nothing but the pin. -/
theorem Link.Lawful.ready_of_pinWait (h : l.Lawful) (hp : l.pinWait = true) :
    Link.Ready { l with pinWait := false } ∧ l.quiet = true := by
  obtain ⟨hidle, hqueued, hpoll, hquiet, hsettling, htimer⟩ := h.pinWaiting hp
  exact ⟨⟨hidle, hqueued, hpoll, rfl, hsettling, htimer, h.leftOver⟩, hquiet⟩

/-- An attempt settles first on a link that awaits nothing (05 R102). -/
theorem Link.Ready.settleAttempt (h : l.Ready) (hh : (∃ b, l.holder = some (.program b)) ∨ l.holder = some .markerWrite)
    (timeout : Nat) : (l.settleAttempt timeout).Lawful := by
  have hwrites : l.Writes := hh.imp_right .inl
  have hissued := h.issue_write (op := .readStatus) hwrites nofun nofun
  obtain ⟨hidle, hqueued, hpoll, hpin, hsettling, htimer, hleft⟩ := h
  unfold Link.settleAttempt
  unfold Link.issue at hissued ⊢
  split
  · rename_i hw
    rw [if_pos hw] at hissued
    exact { hissued with
      free := fun hn => absurd hn hwrites.held
      timing := fun _ => ⟨hqueued, .inr rfl⟩
      pinWaiting := by simp [hpin]
      settling := fun _ => ⟨hh, .inl hqueued, .inr (.inl rfl)⟩ }
  · rename_i hw
    rw [if_neg hw] at hissued
    have hstale : l.stale = true := hidle.resolve_left (by simpa using hw)
    exact { hissued with
      free := fun hn => absurd hn hwrites.held
      timing := by simp [htimer]
      pinWaiting := by simp [hpin]
      settling := fun _ => ⟨hh, .inr rfl, .inr (.inr hstale)⟩ }

/-- The release leaves a free link where nothing waits behind the wire and at most a status or an identification is on it. -/
theorem Link.release_ready (hidle : l.wire = none ∨ l.stale = true) (hqueued : l.queued = none)
    (hleft : l.stale = true → ∃ op, l.wire = some op ∧ op.mayBeLeft = true) : l.release.Ready :=
  ⟨hidle, hqueued, rfl, rfl, rfl, rfl, hleft⟩

theorem Link.Ready.release (h : l.Ready) : l.release.Ready := Link.release_ready h.idle h.queued h.leftOver

/-- After an abandoned operation nothing of the holder's is on the wire (log 13). -/
theorem Link.abandon_idle (hw : ∀ op, l.wire = some op → op.mayBeLeft = true) :
    (l.abandon.wire = none ∨ l.abandon.stale = true)
      ∧ (l.abandon.stale = true → ∃ op, l.abandon.wire = some op ∧ op.mayBeLeft = true) := by
  unfold Link.abandon
  cases hwire : l.wire with
  | none => exact ⟨.inl rfl, nofun⟩
  | some op => exact ⟨.inr rfl, fun _ => ⟨op, rfl, hw op hwire⟩⟩

/-- The program timer runs with at most a READ-STATUS on the wire, so its expiry leaves nothing awaited (05 R99). -/
theorem Link.Lawful.timedOut_ready (h : l.Lawful) (ht : l.programTimer.isSome = true) : l.timedOut.Ready := by
  obtain ⟨hqueued, hwire⟩ := h.timing ht
  obtain ⟨hidle, hleft⟩ := Link.abandon_idle (l := l) fun op hop => by
    rcases hwire with hn | hs
    · rw [hn] at hop; cases hop
    · rw [hs] at hop; cases hop; rfl
  have hpin : l.pinWait = false := Bool.eq_false_iff.mpr fun hp => by
    simp [(h.pinWaiting hp).2.2.2.2.2] at ht
  exact ⟨hidle, rfl, rfl, hpin, rfl, rfl, hleft⟩

/-- What may be left on the wire stands there under a SETTLE or a PROBE. -/
theorem Link.Lawful.settle_left (h : l.Lawful) {k : ReqKind} (hh : l.holder = some (.settle k)) :
    ∀ op, l.wire = some op → op.mayBeLeft = true := by
  intro op hop
  rcases (h.settle k hh).2 with hn | hs | hs
  · rw [hn] at hop; cases hop
  · rw [hs] at hop; cases hop; rfl
  · obtain ⟨op', hop', hleft⟩ := h.leftOver hs
    rw [hop] at hop'
    exact Option.some.inj hop' ▸ hleft

/-- The poll interval runs with nothing on the wire, and READ-STATUS follows it (05 R99). -/
theorem Link.Lawful.poll (h : l.Lawful) (hp : l.pollWait = true) :
    (Link.issue { l with pollWait := false } .readStatus).Lawful := by
  have hw := h.polling hp
  have hstale : l.stale = false := Bool.eq_false_iff.mpr fun hs => by
    obtain ⟨_, hop, -⟩ := h.leftOver hs
    rw [hw] at hop
    cases hop
  have hqueued := h.queued_none hstale
  have hpin : l.pinWait = false := Bool.eq_false_iff.mpr fun hpin => by
    rw [(h.pinWaiting hpin).2.2.1] at hp
    cases hp
  have hheld : l.holder ≠ none := fun hn => by simp [(h.free hn).2.2.1] at hp
  unfold Link.issue
  rw [if_pos (by simp [hw])]
  exact {
    wireQuiet := fun _ hop hq => by cases Option.some.inj hop; cases hq
    queuedQuiet := by simp [hqueued]
    queuedBehind := by simp [hqueued]
    queuedKind := by simp [hqueued]
    leftOver := by simp [hstale]
    free := fun hn => absurd hn hheld
    polling := nofun
    pinWaiting := by simp [hpin]
    timing := fun _ => ⟨hqueued, .inr rfl⟩
    settling := fun hs => ⟨(h.settling hs).1, .inl hqueued, .inr (.inl rfl)⟩
    settle := fun _ _ => ⟨.inl hqueued, .inr (.inl rfl)⟩
    probe := fun _ => ⟨.inl hqueued, fun _ hop => by cases Option.some.inj hop; rfl⟩ }

/-- A status that no owner judges has completed: what waited behind it stands on the wire (log 13). -/
theorem Link.Lawful.afterStale (h : l.Lawful) (hs : l.stale = true) (w : Option MemOp) {q : Bool}
    (hq : l.quiet = true → q = true) (timeout : Nat) :
    (Link.afterStale { l with wire := w, quiet := q } timeout).Lawful := by
  have hpoll : l.pollWait = false := Bool.eq_false_iff.mpr fun hp => by
    obtain ⟨_, hop, -⟩ := h.leftOver hs
    rw [h.polling hp] at hop
    cases hop
  exact {
    wireQuiet := fun op hop hop' => hq (h.queuedQuiet op hop hop')
    queuedQuiet := nofun
    queuedBehind := nofun
    queuedKind := nofun
    leftOver := nofun
    free := fun hn => by
      obtain ⟨-, hqueued, hfree⟩ := h.free hn
      exact ⟨.inl hqueued, rfl, hfree.1, hfree.2.1, hfree.2.2.1, by simp [Link.afterStale, hqueued, hfree], hfree.2.2.2.2⟩
    polling := by simp [Link.afterStale, hpoll]
    pinWaiting := fun hp => by
      obtain ⟨-, hqueued, -, hquiet, hsettling, htimer⟩ := h.pinWaiting hp
      exact ⟨.inl hqueued, rfl, hpoll, hq hquiet, hsettling, by simp [Link.afterStale, hqueued, htimer]⟩
    timing := fun ht => by
      refine ⟨rfl, ?_⟩
      by_cases hset : (l.settling && l.queued.isSome) = true
      · obtain ⟨hsettling, hsome⟩ := Bool.and_eq_true_iff.mp hset
        exact (h.settling hsettling).2.1
      · simp only [Link.afterStale, if_neg hset] at ht
        exact .inl (h.timing ht).1
    settling := fun hset => ⟨(h.settling hset).1, .inl rfl, (h.settling hset).2.1.imp_right .inl⟩
    settle := fun k hk => ⟨.inl rfl, (h.settle k hk).1.imp_right .inl⟩
    probe := fun hp => ⟨.inl rfl, fun op hop => by
      rcases (h.probe hp).1 with hn | hid
      · exact absurd (hn.symm.trans hop) nofun
      · rw [Option.some.inj (hop.symm.trans hid)]; rfl⟩ }

/-- BUSY 1 starts the poll interval again (05 R99). -/
theorem Link.Lawful.pollAgain (h : l.Lawful) (hw : l.wire = some .readStatus) (hs : l.stale = false)
    (hh : l.holder ≠ none) (st : Byte) : Link.Lawful { l.sawStatus st with pollWait := true } := by
  obtain ⟨hqueued, -, hpin⟩ := h.waits hw hs
  exact {
    wireQuiet := nofun
    queuedQuiet := by simp [Link.sawStatus, hqueued]
    queuedBehind := by simp [Link.sawStatus, hqueued]
    queuedKind := by simp [Link.sawStatus, hqueued]
    leftOver := by simp [Link.sawStatus, hs]
    free := fun hn => absurd hn hh
    polling := fun _ => rfl
    pinWaiting := by simp [Link.sawStatus, hpin]
    timing := fun _ => ⟨hqueued, .inl rfl⟩
    settling := fun hset => ⟨(h.settling hset).1, .inl hqueued, .inl rfl⟩
    settle := fun _ _ => ⟨.inl hqueued, .inl rfl⟩
    probe := fun _ => ⟨.inl hqueued, nofun⟩ }

/-- A status that ends the polling or the settling of its owner leaves nothing awaited (05 R99, R102). -/
theorem Link.Lawful.polled_ready (h : l.Lawful) (hw : l.wire = some .readStatus) (hs : l.stale = false) (st : Byte) :
    Link.Ready { l.sawStatus st with settling := false, programTimer := none } := by
  obtain ⟨hqueued, hpoll, hpin⟩ := h.waits hw hs
  exact ⟨.inl rfl, hqueued, hpoll, hpin, rfl, rfl, by simp [Link.sawStatus, hs]⟩

theorem Link.sawStatus_quiet {st : Byte} (h : statusBusy st = false) : (l.sawStatus st).quiet = true := by
  simp [Link.sawStatus, h]

/-- The PAGE-WRITE's own completion leaves a running program timer and poll interval and nothing on the wire (05 R99). -/
theorem Link.Lawful.pageWritten (h : l.Lawful) {addr : Nat} {data : List Byte} (hw : l.wire = some (.pageWrite addr data))
    (timeout : Nat) : (l.pageWritten timeout).Lawful := by
  have hs := h.not_stale hw rfl
  obtain ⟨hqueued, -, hpin⟩ := h.waits hw hs
  have hheld : l.holder ≠ none := fun hn => by
    rcases (h.free hn).1 with hn | hs'
    · rw [hn] at hw; cases hw
    · rw [hs] at hs'; cases hs'
  exact {
    wireQuiet := nofun
    queuedQuiet := by simp [Link.pageWritten, hqueued]
    queuedBehind := by simp [Link.pageWritten, hqueued]
    queuedKind := by simp [Link.pageWritten, hqueued]
    leftOver := by simp [Link.pageWritten, hs]
    free := fun hn => absurd hn hheld
    polling := fun _ => rfl
    pinWaiting := by simp [Link.pageWritten, hpin]
    timing := fun _ => ⟨hqueued, .inl rfl⟩
    settling := fun hset => ⟨(h.settling hset).1, .inl hqueued, .inl rfl⟩
    settle := fun _ _ => ⟨.inl hqueued, .inl rfl⟩
    probe := fun _ => ⟨.inl hqueued, nofun⟩ }

end

end Sys2Proof.Machine
end


section
/-! PROOF. Every step keeps the discipline of the memory link (O57). -/
namespace Sys2Proof.Machine

/-! ### The link and the buffers together -/

/-- The link meets its law, and no buffer but the holder's is in a program operation (05 R97, R100). -/
structure State.Disciplined (s : State) : Prop where
  link : s.link.Lawful
  program : s.OneProgram

theorem State.oneProgram_iff {s : State} :
    s.OneProgram ↔ ∀ b, (s.buf b).state.inProgram = true → s.link.holder = some (.program b) :=
  ⟨fun h => Buf.rec h.pb0 h.pb1, fun h => ⟨h .pb0, h .pb1⟩⟩

/-- `op` holds the link and awaits nothing. -/
structure State.Serves (s : State) (op : LinkOp) : Prop where
  holder : s.link.holder = some op
  ready : s.link.Ready
  program : s.OneProgram

/-- The link is FREE and no buffer is in a program operation. -/
structure State.Unheld (s : State) : Prop where
  holder : s.link.holder = none
  timer : s.link.settleTimer = false
  ready : s.link.Ready
  program : ∀ b, (s.buf b).state.inProgram = false

section
variable {s t : State} {op : LinkOp} {b : Buf}

theorem State.Serves.disciplined (h : s.Serves op) : s.Disciplined :=
  ⟨h.ready.lawful fun hn => (by rw [h.holder] at hn; cases hn), h.program⟩

theorem State.Unheld.disciplined (h : s.Unheld) : s.Disciplined :=
  ⟨h.ready.lawful fun _ => h.timer, State.oneProgram_iff.mpr fun b hb => by rw [h.program b] at hb; cases hb⟩

theorem State.Disciplined.unheld (h : s.Disciplined) (hn : s.link.holder = none) : s.Unheld :=
  ⟨hn, (h.link.free hn).2.2.2.2.2.2, h.link.ready_of_free hn, fun b => Bool.eq_false_iff.mpr fun hb => by
    rw [State.oneProgram_iff.mp h.program b hb] at hn; cases hn⟩

/-! A state with the same link and the same drain engine has the same discipline. -/

theorem State.Disciplined.congr (h : s.Disciplined) (hl : t.link = s.link) (hd : t.drain = s.drain) : t.Disciplined := by
  obtain ⟨hlink, h0, h1⟩ := h
  exact ⟨hl ▸ hlink, ⟨by rwa [hl, hd], by rwa [hl, hd]⟩⟩

theorem State.Serves.congr (h : s.Serves op) (hl : t.link = s.link) (hd : t.drain = s.drain) : t.Serves op := by
  obtain ⟨hholder, hready, h0, h1⟩ := h
  exact ⟨hl ▸ hholder, hl ▸ hready, ⟨by rwa [hl, hd], by rwa [hl, hd]⟩⟩

theorem State.Unheld.congr (h : s.Unheld) (hl : t.link = s.link) (hd : t.drain = s.drain) : t.Unheld := by
  obtain ⟨hholder, htimer, hready, hprogram⟩ := h
  exact ⟨hl ▸ hholder, hl ▸ htimer, hl ▸ hready, fun b => by rw [State.buf, hd]; exact hprogram b⟩

/-- A buffer that does not enter a program operation. -/
theorem State.Disciplined.setBuf (h : s.Disciplined) {x : PageBuffer} (hx : x.state.inProgram = false) :
    (s.setBuf b x).Disciplined := by
  refine ⟨by simpa using h.link, State.oneProgram_iff.mpr fun c hc => ?_⟩
  have hne : c ≠ b := by rintro rfl; rw [State.setBuf_buf_same, hx] at hc; cases hc
  rw [State.setBuf_buf_ne _ _ hne] at hc
  simpa using State.oneProgram_iff.mp h.program c hc

/-- The holder's own buffer may be in any state. -/
theorem State.Serves.setBuf (h : s.Serves (.program b)) (x : PageBuffer) : (s.setBuf b x).Serves (.program b) := by
  refine ⟨by simpa using h.holder, by simpa using h.ready, State.oneProgram_iff.mpr fun c hc => ?_⟩
  by_cases hcb : c = b
  · subst hcb; simpa using h.holder
  · rw [State.setBuf_buf_ne _ _ hcb] at hc
    simpa using State.oneProgram_iff.mp h.program c hc

theorem State.Serves.other_idle (h : s.Serves (.program b)) : (s.buf b.other).state.inProgram = false :=
  Bool.eq_false_iff.mpr fun hb => by
    have := State.oneProgram_iff.mp h.program _ hb
    rw [h.holder] at this
    simp at this

/-- The release of the link by a holder that leaves no buffer in a program operation. -/
theorem State.Unheld.of_release (hl : t.link = s.link.release) (hready : s.link.release.Ready)
    (hd : ∀ c, (t.buf c).state.inProgram = false) : t.Unheld :=
  ⟨by rw [hl]; rfl, by rw [hl]; rfl, hl ▸ hready, hd⟩

/-- An operation that is no program has no buffer in a program operation. -/
theorem State.OneProgram.idle (h : s.OneProgram) (hh : s.link.holder = some op) (hop : ∀ b, op ≠ .program b) :
    ∀ c, (s.buf c).state.inProgram = false := fun c =>
  Bool.eq_false_iff.mpr fun hc => by
    have := State.oneProgram_iff.mp h c hc
    rw [hh] at this
    exact hop c (Option.some.inj this)

/-! ### What a holder that awaits nothing does next -/

theorem State.holderPage_writes {page : Nat} (h : s.holderPage = some page) : s.link.Writes := by
  unfold State.holderPage at h
  split at h
  · exact .inl ⟨_, ‹_›⟩
  · exact .inr (.inl ‹_›)
  · exact .inr (.inr ‹_›)
  · cases h

theorem Link.issue_holder (l : Link) (op : MemOp) : (l.issue op).holder = l.holder := by
  unfold Link.issue; split <;> rfl

/-- A change of the link that keeps its holder keeps the buffers' discipline. -/
theorem State.Disciplined.setLink {l : Link} (hp : s.OneProgram) (hl : l.Lawful) (hh : l.holder = s.link.holder) :
    (s.setLink l).Disciplined :=
  ⟨hl, ⟨fun h => hh.trans (hp.pb0 h), fun h => hh.trans (hp.pb1 h)⟩⟩

theorem State.Disciplined.issue {m : MemOp} (hp : s.OneProgram) (hl : (s.link.issue m).Lawful) :
    (s.issue m).Disciplined :=
  .setLink hp hl (Link.issue_holder ..)

theorem State.Serves.enableOrPin (h : s.Serves op) (hq : s.link.quiet = true) : s.enableOrPin.Disciplined := by
  unfold State.enableOrPin
  split
  · exact h.disciplined
  · rename_i hpage
    have hwrites := State.holderPage_writes hpage
    split
    · exact .setLink h.program (h.ready.pin hwrites hq) rfl
    · exact .issue h.program (h.ready.issue_write hwrites (fun _ => hq) nofun)

theorem State.Serves.beginAttempt (h : s.Serves op) (hop : (∃ b, op = .program b) ∨ op = .markerWrite) :
    s.beginAttempt.Disciplined := by
  unfold State.beginAttempt
  split
  · exact h.enableOrPin ‹_›
  · have hholder : (∃ b, s.link.holder = some (.program b)) ∨ s.link.holder = some .markerWrite := by
      rcases hop with ⟨b, rfl⟩ | rfl
      · exact .inl ⟨b, h.holder⟩
      · exact .inr h.holder
    exact .setLink h.program (h.ready.settleAttempt hholder _) (Link.issue_holder ..)

theorem State.Serves.startProgramAttempt (h : s.Serves (.program b)) : (s.startProgramAttempt b).Disciplined := by
  unfold State.startProgramAttempt
  have hset := h.setBuf { s.buf b with state := .programming, attempts := (s.buf b).attempts + 1 }
  exact State.Serves.beginAttempt (op := .program b)
    ⟨hset.holder, hset.ready, ⟨hset.program.pb0, hset.program.pb1⟩⟩ (.inl ⟨b, rfl⟩)

theorem State.Serves.startMarkerAttempt (h : s.Serves .markerWrite) : s.startMarkerAttempt.Disciplined := by
  unfold State.startMarkerAttempt
  exact (h.congr (by simp) (by simp)).beginAttempt (.inr rfl)

/-! ### The ends of attempts -/

theorem State.endProgram_link (s : State) : s.endProgram.link = s.link.release := rfl

theorem State.endProgram_drain (s : State) : s.endProgram.drain = { s.drain with partner := none } := rfl

/-- What ends a program operation frees the link: its buffer has left the operation, and the other is in none. -/
theorem State.Serves.ended (h : s.Serves (.program b)) (hl : t.link = s.link.release)
    (hb : (t.buf b).state.inProgram = false)
    (ho : (t.buf b.other).state = (s.buf b.other).state ∨ (t.buf b.other).state = .free) : t.Unheld :=
  .of_release hl h.ready.release fun c => by
    by_cases hcb : c = b
    · exact hcb ▸ hb
    · obtain rfl : c = b.other := by cases b <;> cases c <;> simp_all
      rcases ho with ho | ho
      · rw [ho]; exact h.other_idle
      · rw [ho]; rfl

section
variable (s : State) (b : Buf) (r : FailReason)

theorem State.finalFailure_link : (s.finalFailure b r).link = s.link.release := by
  unfold State.finalFailure
  dsimp only
  split <;> simp [State.endProgram_link]

theorem State.finalFailure_drain : (s.finalFailure b r).drain
    = { (s.setBuf b { s.buf b with state := .held, waiters := {} }).drain with partner := none } := by
  unfold State.finalFailure
  dsimp only
  split <;> simp [State.endProgram_drain]

/-- Superseding leaves a buffer in its state or frees it. -/
theorem State.supersede_buf (c : Buf) :
    ((s.supersede b).buf c).state = (s.buf c).state ∨ ((s.supersede b).buf c).state = .free := by
  unfold State.supersede
  split
  · exact .inl rfl
  · rename_i o _
    dsimp only
    split
    · simp only [State.buf, State.addFault_frame, State.tellWaiters_frame]
      by_cases hco : c = o
      · subst hco; exact .inr (congrArg PageBuffer.state (s.setBuf_buf_same c .freed))
      · exact .inl (congrArg PageBuffer.state (s.setBuf_buf_ne .freed hco))
    · by_cases hco : c = o
      · subst hco; exact .inl (by rw [State.setBuf_buf_same])
      · exact .inl (by rw [State.setBuf_buf_ne _ _ hco])

theorem State.programSuccess_link : (s.programSuccess b).link = s.link.release := by
  simp [State.programSuccess, State.endProgram_link]

theorem State.programSuccess_buf :
    (s.programSuccess b).buf b = .freed
      ∧ (s.programSuccess b).buf b.other
        = ((s.countPageWrite.tellWaiters (s.buf b).waiters true).supersede b).buf b.other := by
  have hdrain : (s.programSuccess b).drain
      = { ((((s.countPageWrite.tellWaiters (s.buf b).waiters true).supersede b).setBuf b .freed).drain) with
          partner := none } := by
    simp [State.programSuccess, State.endProgram_drain]
  constructor
  · rw [State.buf, hdrain]; cases b <;> rfl
  · rw [State.buf, hdrain]; cases b <;> rfl

end

theorem State.Serves.finalFailure (h : s.Serves (.program b)) (r : FailReason) : (s.finalFailure b r).Unheld := by
  refine h.ended (s.finalFailure_link b r) ?_ (.inl ?_)
  · rw [State.buf, State.finalFailure_drain]; cases b <;> rfl
  · rw [State.buf, State.finalFailure_drain]; cases b <;> rfl

theorem State.Serves.programSuccess (h : s.Serves (.program b)) : (s.programSuccess b).Unheld := by
  obtain ⟨hfreed, hother⟩ := s.programSuccess_buf b
  refine h.ended (s.programSuccess_link b) (by rw [hfreed]; rfl) ?_
  rw [hother]
  simpa [State.buf] using State.supersede_buf (s.countPageWrite.tellWaiters (s.buf b).waiters true) b b.other

theorem State.Serves.suspend (h : s.Serves (.program b)) : (s.suspend b).Unheld := by
  refine h.ended ?_ ?_ (.inl ?_)
  · simp [State.suspend, State.endProgram_link]
  · cases b <;> rfl
  · cases b <;> rfl

theorem State.Serves.attemptFailed (h : s.Serves (.program b)) (r : FailReason) : (s.attemptFailed b r).Disciplined := by
  have hkept : (s.countRetry.setBuf b { s.buf b with failure := some r }).Serves (.program b) :=
    State.Serves.setBuf (h.congr (by simp) (by simp)) _
  unfold State.attemptFailed
  dsimp only
  split
  · exact (hkept.finalFailure r).disciplined
  · split
    · exact hkept.suspend.disciplined
    · exact hkept.startProgramAttempt

/-- A read of the holder's is issued on a QUIET memory (05 R97, R100). -/
theorem State.Serves.issueRead (h : s.Serves op) (hq : s.link.quiet = true) (addr len : Nat)
    (hop : op ≠ .probe ∧ ∀ k, op ≠ .settle k) : (s.issue (.readData addr len)).Disciplined :=
  .issue h.program (h.ready.issue (by simp [h.holder]) (fun _ => hq) nofun
    (fun k hk => absurd (Option.some.inj (h.holder.symm.trans hk)) (hop.2 k))
    fun hp => absurd (Option.some.inj (h.holder.symm.trans hp)) hop.1)

theorem State.Serves.judgeProgram (h : s.Serves (.program b)) (hq : s.link.quiet = true) (st : Byte) :
    (s.judgeProgram b st).Disciplined := by
  unfold State.judgeProgram
  split
  · exact h.attemptFailed _
  · split
    · exact (h.setBuf _).issueRead (by simpa using hq) _ _ ⟨nofun, nofun⟩
    · exact h.programSuccess.disciplined

/-! ### The marker write and the direct operations -/

/-- The release by an operation that is no program. -/
theorem State.Serves.release (h : s.Serves op) (hop : ∀ b, op ≠ .program b) : s.releaseLink.Unheld :=
  .of_release rfl h.ready.release (h.program.idle h.holder hop)

theorem State.markerSuccess_link (s : State) : s.markerSuccess.link = s.link.release := by
  unfold State.markerSuccess
  cases s.control.mode <;> simp [State.releaseLink]

theorem State.markerGivenUp_link (s : State) (r : FailReason) : (s.markerGivenUp r).link = s.link.release := by
  unfold State.markerGivenUp
  cases s.control.mode <;> simp [State.releaseLink]

/-- A change of mode moves no buffer into or out of a program operation: the charge mark alone may change in it. -/
theorem State.enterPfDrain_buf (s : State) (c : Buf) : s.enterPfDrain.buf c = s.buf c := by
  unfold State.enterPfDrain
  cases c <;> simp

theorem State.markerSuccess_buf (s : State) (c : Buf) : s.markerSuccess.buf c = s.buf c := by
  unfold State.markerSuccess State.resumeMarkerDone
  cases s.control.mode with
  | starting | pfDrain | running | applying | pfDone | failed => simp [State.buf, State.releaseLink]
  | resuming =>
    dsimp only
    split
    · rw [State.enterPfDrain_buf]; rfl
    · simp [State.buf, State.releaseLink]

theorem State.markerGivenUp_buf (s : State) (r : FailReason) (c : Buf) : (s.markerGivenUp r).buf c = s.buf c := by
  unfold State.markerGivenUp State.resumeMarkerDone
  cases s.control.mode with
  | starting | pfDrain | running | applying | pfDone | failed => simp [State.buf, State.releaseLink]
  | resuming =>
    dsimp only
    split
    · rw [State.enterPfDrain_buf]; simp [State.buf, State.releaseLink]
    · simp [State.buf, State.releaseLink]

end

end Sys2Proof.Machine
end


section
/-! PROOF. Every step keeps the discipline of the memory link (O57): completions, grants, the end of an event, the commands. -/
namespace Sys2Proof.Machine

section
variable {s t : State} {op : LinkOp} {b : Buf} {m : MemOp}

/-! ### Buffers that keep their states -/

theorem State.Disciplined.congr_buf (h : s.Disciplined) (hl : t.link = s.link)
    (hb : ∀ c, (t.buf c).state = (s.buf c).state) : t.Disciplined :=
  ⟨hl ▸ h.link, State.oneProgram_iff.mpr fun c hc => by
    rw [hb] at hc; rw [hl]; exact State.oneProgram_iff.mp h.program c hc⟩

theorem State.Serves.congr_buf (h : s.Serves op) (hl : t.link = s.link)
    (hb : ∀ c, (t.buf c).state = (s.buf c).state) : t.Serves op :=
  ⟨hl ▸ h.holder, hl ▸ h.ready, (State.Disciplined.congr_buf h.disciplined hl hb).program⟩

/-! ### Blocks beside the link and the drain engine -/

theorem State.Serves.setReads (h : s.Serves op) (x : ReadService) : (s.setReads x).Serves op := h.congr rfl rfl
theorem State.Serves.setControl (h : s.Serves op) (x : Control) : (s.setControl x).Serves op := h.congr rfl rfl
theorem State.Serves.setMaint (h : s.Serves op) (x : Maint) : (s.setMaint x).Serves op := h.congr rfl rfl
theorem State.Serves.setMemory (h : s.Serves op) (x : SerialMemory) : (s.setMemory x).Serves op := h.congr rfl rfl
theorem State.Unheld.setControl (h : s.Unheld) (x : Control) : (s.setControl x).Unheld := h.congr rfl rfl

/-! ### The marker write -/

theorem State.Serves.markerSuccess (h : s.Serves .markerWrite) : s.markerSuccess.Unheld :=
  .of_release s.markerSuccess_link h.ready.release fun c => by
    rw [State.markerSuccess_buf]; exact h.program.idle h.holder nofun c

theorem State.Serves.markerGivenUp (h : s.Serves .markerWrite) (r : FailReason) : (s.markerGivenUp r).Unheld :=
  .of_release (s.markerGivenUp_link r) h.ready.release fun c => by
    rw [State.markerGivenUp_buf]; exact h.program.idle h.holder nofun c

theorem State.Serves.markerAttemptFailed (h : s.Serves .markerWrite) (r : FailReason) :
    (s.markerAttemptFailed r).Disciplined := by
  have hkept := h.setControl { s.control with marker := { s.control.marker with failure := some r } }
  unfold State.markerAttemptFailed
  dsimp only
  split
  · exact (hkept.markerGivenUp r).disciplined
  · exact hkept.startMarkerAttempt

theorem State.Serves.judgeMarker (h : s.Serves .markerWrite) (hq : s.link.quiet = true) (st : Byte) :
    (s.judgeMarker st).Disciplined := by
  unfold State.judgeMarker
  split
  · exact h.markerAttemptFailed _
  · split
    · exact h.issueRead hq _ _ ⟨nofun, nofun⟩
    · exact h.markerSuccess.disciplined

/-! ### The direct operations -/

theorem State.Serves.endDirect (h : s.Serves op) (hop : ∀ b, op ≠ .program b) (code : Completion) (data : List Byte) :
    (s.endDirect code data).Unheld :=
  (h.release hop).congr (by simp [State.endDirect]) (by simp [State.endDirect])

theorem State.Serves.judgeRun (h : s.Serves .directWrite) (hq : s.link.quiet = true) (st : Byte) :
    (s.judgeRun st).Disciplined := by
  unfold State.judgeRun
  split
  · exact (h.endDirect nofun _ _).disciplined
  · have hkept := h.setMaint { s.maint with direct := { s.maint.direct with written := s.maint.direct.written + 1 } }
    dsimp only
    split
    · exact hkept.enableOrPin hq
    · exact (hkept.endDirect nofun _ _).disciplined

/-! ### What the completion of a memory operation leaves -/

theorem State.Disciplined.wireDone (h : s.Disciplined) (hh : s.link.holder = some op) (hw : s.link.wire = some m)
    (hs : s.link.stale = false) (hm : m ≠ .readStatus) : (s.setLink s.link.wireDone).Serves op :=
  ⟨hh, h.link.wireDone_ready hw hs hm, ⟨h.program.pb0, h.program.pb1⟩⟩

/-- A READ-DATA or WRITE-ENABLE on the wire is the holder's own. -/
theorem State.Disciplined.owned (h : s.Disciplined) (hh : s.link.holder = some op) (hw : s.link.wire = some m)
    (hm : m.mayBeLeft = false) : (s.setLink s.link.wireDone).Serves op :=
  h.wireDone hh hw (h.link.not_stale hw hm) (by rintro rfl; cases hm)

/-- The program timer has expired. -/
theorem State.Disciplined.timedOut (h : s.Disciplined) (ht : s.link.programTimer.isSome = true)
    (hh : s.link.holder = some op) : (s.setLink s.link.timedOut).Serves op :=
  ⟨hh, h.link.timedOut_ready ht, ⟨h.program.pb0, h.program.pb1⟩⟩

/-- A READ-STATUS has shown BUSY 0 to an operation that does not settle. -/
theorem State.Disciplined.polled (h : s.Disciplined) (hh : s.link.holder = some op) (hw : s.link.wire = some .readStatus)
    (hs : s.link.stale = false) (st : Byte) (hset : s.link.settling = false) : (s.sawStatus st).pollEnds.Serves op := by
  have hready := h.link.polled_ready hw hs st
  have hlink : (s.sawStatus st).pollEnds.link = { s.link.sawStatus st with settling := false, programTimer := none } := by
    simp [State.sawStatus, State.pollEnds, Link.sawStatus, hset]
  exact ⟨hlink ▸ hh, hlink ▸ hready, ⟨h.program.pb0, h.program.pb1⟩⟩

/-- An attempt has settled (05 R102). -/
theorem State.Disciplined.settled (h : s.Disciplined) (hh : s.link.holder = some op) (hw : s.link.wire = some .readStatus)
    (hs : s.link.stale = false) {st : Byte} (hbusy : statusBusy st = false) : (s.sawStatus st).settled.Disciplined :=
  State.Serves.enableOrPin (op := op)
    ⟨hh, h.link.polled_ready hw hs st, ⟨h.program.pb0, h.program.pb1⟩⟩ (Link.sawStatus_quiet hbusy)

theorem State.Disciplined.pollAgain (h : s.Disciplined) (hh : s.link.holder = some op) (hw : s.link.wire = some .readStatus)
    (hs : s.link.stale = false) (st : Byte) : (s.sawStatus st).pollAgain.Disciplined :=
  ⟨h.link.pollAgain hw hs (by simp [hh]) st, ⟨h.program.pb0, h.program.pb1⟩⟩

/-- Only a drain attempt and a marker write settle. -/
theorem State.Disciplined.not_settling (h : s.Disciplined) (hh : s.link.holder = some op)
    (hop : (∀ b, op ≠ .program b) ∧ op ≠ .markerWrite) : s.link.settling = false :=
  Bool.eq_false_iff.mpr fun hset => by
    rcases (h.link.settling hset).1 with ⟨b, hb⟩ | hm
    · exact hop.1 b (Option.some.inj (hh.symm.trans hb))
    · exact hop.2 (Option.some.inj (hh.symm.trans hm))

theorem State.Unheld.changeMode (h : s.Unheld) (new : Mode) : (s.changeMode new).Unheld := h.congr (by simp) (by simp)

theorem State.Unheld.startupNext (h : s.Unheld) (next : CtrlReq) : (s.startupNext next).Unheld := h.congr (by simp) (by simp)

/-- The holder has released the link of which nothing of its own is left (05 R97, R101). -/
theorem State.Disciplined.released (h : s.Disciplined) (hh : s.link.holder = some op) (hop : ∀ b, op ≠ .program b)
    (hl : t.link.release.Ready) (hd : t.drain = s.drain) : t.releaseLink.Unheld :=
  .of_release rfl hl fun c => by
    have := h.program.idle hh hop c
    rwa [State.buf, ← hd] at this

theorem State.Disciplined.sawStatus_release (h : s.Disciplined) (hs : s.link.stale = false) (st : Byte) :
    (s.sawStatus st).link.release.Ready :=
  Link.release_ready (.inl rfl) (h.link.queued_none hs) fun hs' => absurd (hs.symm.trans hs') nofun

theorem State.Unheld.settleDone {k : ReqKind} (h : s.releaseLink.Unheld) : (s.settleDone k).Unheld := by
  unfold State.settleDone
  dsimp only
  split
  · exact h.changeMode _
  · exact h

theorem State.Disciplined.judgeStatus (h : s.Disciplined) (hw : s.link.wire = some .readStatus)
    (hs : s.link.stale = false) (hh : s.link.holder = some op) (hp : op.polls = true) (st : Byte) :
    ((s.sawStatus st).judgeStatus op st).Disciplined := by
  have again := h.pollAgain hh hw hs st
  have hready := h.sawStatus_release hs st
  cases hbusy : statusBusy st with
  | true => cases op <;> simp_all [State.judgeStatus, LinkOp.polls]
  | false =>
    have hquiet : (s.sawStatus st).pollEnds.link.quiet = true := Link.sawStatus_quiet hbusy
    cases op with
    | fetch | markerRead | directId | directStatus | directRead => cases hp
    | program b =>
      simp only [State.judgeStatus, hbusy, Bool.false_eq_true, if_false]
      split
      · exact h.settled hh hw hs hbusy
      · exact (h.polled hh hw hs st (Bool.eq_false_iff.mpr ‹_›)).judgeProgram hquiet st
    | markerWrite =>
      simp only [State.judgeStatus, hbusy, Bool.false_eq_true, if_false]
      split
      · exact h.settled hh hw hs hbusy
      · exact (h.polled hh hw hs st (Bool.eq_false_iff.mpr ‹_›)).judgeMarker hquiet st
    | directWrite =>
      simp only [State.judgeStatus, hbusy, Bool.false_eq_true, if_false]
      exact (h.polled hh hw hs st (h.not_settling hh ⟨nofun, nofun⟩)).judgeRun hquiet st
    | probe =>
      simp only [State.judgeStatus, hbusy, Bool.false_eq_true, if_false, State.probeQuiet]
      exact (((h.released hh nofun hready rfl).setControl _).startupNext _).disciplined
    | settle k =>
      simp only [State.judgeStatus, hbusy, Bool.false_eq_true, if_false]
      exact (h.released hh nofun hready rfl).settleDone.disciplined

/-- A status or identification that no owner judges has completed (log 13). -/
theorem State.Disciplined.afterStale (h : s.Disciplined) (hs : s.link.stale = true) {q : Bool}
    (hl : t.link = { s.link with wire := none, quiet := q }) (hd : t.drain = s.drain) (hq : s.link.quiet = true → q = true) :
    t.afterStale.Disciplined := by
  have hlaw := h.link.afterStale hs none hq t.programTimeout
  have hp := h.program
  refine ⟨by rw [State.afterStale, hl]; exact hlaw, ⟨fun hb => ?_, fun hb => ?_⟩⟩
  · simp only [State.afterStale, hl, State.setLink_link, State.setLink_drain, hd] at hb ⊢
    exact hp.pb0 hb
  · simp only [State.afterStale, hl, State.setLink_link, State.setLink_drain, hd] at hb ⊢
    exact hp.pb1 hb

/-! ### The page write -/

theorem State.Serves.issuePageWrite (h : s.Serves op) (hq : s.link.quiet = true) (hw : s.link.wire = none) :
    s.issuePageWrite.Disciplined := by
  unfold State.issuePageWrite
  split
  · rename_i addr data page _ hpage
    have hwrites := State.holderPage_writes hpage
    split
    · exact .setLink h.program (h.ready.pin hwrites hq) rfl
    · have hissued := State.Disciplined.issue (m := .pageWrite addr data) h.program
        (h.ready.issue_write hwrites (fun _ => hq) fun _ _ _ => hw)
      exact hissued.congr (by simp) (by simp)
  · exact h.disciplined

/-! ### Grants on a FREE link -/

theorem State.Unheld.hold (h : s.Unheld) (op : LinkOp) : (s.hold op).Serves op := by
  obtain ⟨hidle, hqueued, hpoll, hpin, hsettling, htimer, hleft⟩ := h.ready
  refine ⟨rfl, ⟨hidle, hqueued, hpoll, hpin, hsettling, htimer, hleft⟩, State.oneProgram_iff.mpr fun b hb => ?_⟩
  rw [show (s.hold op).buf b = s.buf b from rfl, h.program b] at hb
  cases hb

theorem State.Unheld.grantFetch (h : s.Unheld) (hq : s.link.quiet = true) (p : Port) : (s.grantFetch p).Disciplined := by
  unfold State.grantFetch
  split
  · exact h.disciplined
  · exact ((h.hold (.fetch p)).setReads _).issueRead hq _ _ ⟨nofun, nofun⟩

theorem State.Unheld.grantProgram (h : s.Unheld) (hq : s.link.quiet = true) (b : Buf) : (s.grantProgram b).Disciplined := by
  have hprepared : ((((s.hold (.program b)).setBuf b
        { s.buf b with bytes := s.preparedBytes b, retried := false })).setDrain
      { ((s.hold (.program b)).setBuf b { s.buf b with bytes := s.preparedBytes b, retried := false }).drain with
        partner := if s.isHeldPartner b then some b.other else none }).Serves (.program b) :=
    ((h.hold (.program b)).setBuf { s.buf b with bytes := s.preparedBytes b, retried := false }).congr_buf rfl
      fun c => by cases c <;> rfl
  unfold State.grantProgram
  dsimp only
  split
  · exact hprepared.startProgramAttempt
  · exact (hprepared.setBuf _).issueRead (by simpa [State.hold] using hq) _ _ ⟨nofun, nofun⟩

/-- An identification or a status is issued by an operation that has just been granted. -/
theorem State.Serves.issueLeft (h : s.Serves op) (hm : m = .readId ∨ m = .readStatus) (hprobe : op = .probe → m = .readId)
    (hsettle : ∀ k, op = .settle k → m = .readStatus) : (s.issue m).Disciplined := by
  refine .issue h.program (h.ready.issue (by simp [h.holder]) ?_ ?_ (fun k hk => ?_) fun hp => ?_)
  · rcases hm with rfl | rfl <;> nofun
  · rcases hm with rfl | rfl <;> nofun
  · exact hsettle k (Option.some.inj (h.holder.symm.trans hk))
  · exact .inl (hprobe (Option.some.inj (h.holder.symm.trans hp)))

theorem State.Unheld.takeDirect (h : s.Unheld) (op : LinkOp) : (s.takeDirect op).Serves op := (h.hold op).congr rfl rfl

theorem State.Unheld.grantDirectWrite (h : s.Unheld) (hq : s.link.quiet = true) : s.grantDirectWrite.Disciplined := by
  unfold State.grantDirectWrite
  dsimp only
  split
  · exact ((h.takeDirect .directWrite).endDirect nofun _ _).disciplined
  · exact (h.takeDirect _).enableOrPin hq

theorem State.Serves.grantMarkerWrite (h : s.Serves .markerWrite) : s.grantMarkerWrite.Disciplined := by
  unfold State.grantMarkerWrite
  dsimp only
  split
  · exact (h.congr (by simp) (by simp)).startMarkerAttempt
  · exact (h.congr (by simp) (by simp)).startMarkerAttempt

theorem State.Unheld.grant (h : s.Unheld) (hq : op.needsQuiet = true → s.link.quiet = true) : (s.grant op).Disciplined := by
  cases op with
  | fetch p => exact h.grantFetch (hq rfl) p
  | program b => exact h.grantProgram (hq rfl) b
  | probe => exact ((h.hold .probe).setControl _).issueLeft (.inl rfl) (fun _ => rfl) nofun
  | markerRead => exact ((h.hold .markerRead).setControl _).issueRead (hq rfl) _ _ ⟨nofun, nofun⟩
  | markerWrite => exact ((h.hold .markerWrite).setControl _).grantMarkerWrite
  | directId => exact (h.takeDirect .directId).issueLeft (.inl rfl) nofun nofun
  | directStatus => exact (h.takeDirect .directStatus).issueLeft (.inr rfl) nofun nofun
  | directRead => exact (h.takeDirect .directRead).issueRead (hq rfl) _ _ ⟨nofun, nofun⟩
  | directWrite => exact h.grantDirectWrite (hq rfl)
  | settle => exact h.disciplined

theorem State.Unheld.grantSettle (h : s.Unheld) (k : ReqKind) : (s.grantSettle k).Disciplined := by
  obtain ⟨hholder, ⟨hidle, hqueued, hpoll, hpin, hsettling, htimer, hleft⟩, hprogram⟩ := h.hold (.settle k)
  have hserves : ((s.hold (.settle k)).setLink { (s.hold (.settle k)).link with settleTimer := true }).Serves (.settle k) :=
    ⟨hholder, ⟨hidle, hqueued, hpoll, hpin, hsettling, htimer, hleft⟩, ⟨hprogram.pb0, hprogram.pb1⟩⟩
  exact hserves.issueLeft (.inr rfl) nofun fun _ _ => rfl

theorem State.Disciplined.decideOnce (h : s.Disciplined) : s.decideOnce.Disciplined := by
  unfold State.decideOnce
  split
  · exact h
  · rename_i hheld
    have hfree := h.unheld (by simpa using hheld)
    split
    · exact h
    · split
      · exact hfree.grantSettle _
      · rename_i hquiet
        exact hfree.grant fun hop => by simpa [hop] using hquiet

theorem State.Disciplined.decide (h : s.Disciplined) : s.decide.Disciplined := h.decideOnce.decideOnce

/-! ### The end of an event -/

theorem State.Disciplined.endPinWait (h : s.Disciplined) : s.endPinWait.Disciplined := by
  unfold State.endPinWait
  split
  · exact h
  · rename_i hpage
    split
    · rename_i hpin
      have hwrites := State.holderPage_writes hpage
      obtain ⟨hready, hq⟩ := h.link.ready_of_pinWait (Bool.and_eq_true_iff.mp hpin).1
      have hwaits : ((s.setLink { s.link with pinWait := false })).OneProgram := ⟨h.program.pb0, h.program.pb1⟩
      exact .issue hwaits (hready.issue_write hwrites (fun _ => hq) nofun)
    · exact h

theorem State.Disciplined.endEvent (h : s.Disciplined) : s.endEvent.Disciplined := by
  have hentered : s.enterHeldBack.Disciplined := h.congr (by simp) (by simp)
  have hjudged : s.enterHeldBack.endPinWait.judgeFlush.Disciplined := hentered.endPinWait.congr (by simp) (by simp)
  have hrequested : s.enterHeldBack.endPinWait.judgeFlush.requestMarker.Disciplined := hjudged.congr (by simp) (by simp)
  exact hrequested.decide.congr rfl rfl

/-- An event that touches neither the link nor the drain engine before its end. -/
theorem State.Disciplined.event (h : s.Disciplined) (hl : t.link = s.link) (hd : t.drain = s.drain) :
    t.endEvent.Disciplined :=
  (h.congr hl hd).endEvent

end

end Sys2Proof.Machine
end


section
/-! PROOF. Every command keeps the discipline of the memory link (O57). -/
namespace Sys2Proof.Machine

section
variable {s t : State}

theorem State.Disciplined.fetchDone (h : s.Disciplined) (p : Port) (lower upper : Byte) :
    (s.fetchDone p lower upper).Disciplined := h.congr (by simp) (by simp)

/-- The link and the drain engine at their cold-reset values. -/
theorem State.unheld_of_reset (hl : s.link = {}) (hd : s.drain = {}) : s.Unheld :=
  ⟨by rw [hl], by rw [hl], hl ▸ ⟨.inl rfl, rfl, rfl, rfl, rfl, rfl, nofun⟩, fun c => by rw [State.buf, hd]; cases c <;> rfl⟩

/-- A program operation's buffer that a command of the part frees, fills or sets back is in none. -/
theorem State.Disciplined.takeRun (h : s.Disciplined) : s.takeRun.Disciplined := by
  have hfilled : ∀ run counter stamp, (bufferOfRun run counter stamp).state.inProgram = false := fun run _ _ => by
    cases run <;> rfl
  have hset := h.setBuf (b := s.drain.takeInto)
    (hfilled s.queue.run s.queue.counter (s.buf s.drain.takeInto.other).stamp)
  unfold State.takeRun
  dsimp only
  split
  · exact hset.congr_buf (by simp) fun c => by cases c <;> simp [State.buf, Drain.buf]
  · exact hset.congr_buf (by simp) fun c => by cases c <;> rfl

theorem State.Disciplined.dropWaiter (h : s.Disciplined) (p : Port) : (s.dropWaiter p).Disciplined :=
  h.congr_buf rfl fun c => by cases c <;> rfl

theorem State.Disciplined.leaveWait (h : s.Disciplined) (p : Port) : (s.leaveWait p).Disciplined := by
  unfold State.leaveWait
  split
  · exact h.congr rfl rfl
  · exact h.dropWaiter p
  · exact h
  · exact h
  · exact h
  · exact h

theorem State.Disciplined.withdrawWait (h : s.Disciplined) (p : Port) : (s.withdrawWait p).Disciplined :=
  (h.leaveWait p).congr (by simp [State.withdrawWait]) (by simp [State.withdrawWait])

theorem State.Disciplined.expireWait (h : s.Disciplined) (p : Port) : (s.expireWait p).Disciplined :=
  (h.leaveWait p).congr (by simp [State.expireWait]) (by simp [State.expireWait])

theorem State.Disciplined.releaseBuffer (h : s.Disciplined) (b : Buf) : (s.releaseBuffer b).Disciplined := by
  refine (h.setBuf (b := b) (x := .freed) rfl).congr_buf (by simp) fun c => ?_
  unfold State.releaseBuffer
  dsimp only
  cases b <;> cases c <;> (repeat' split) <;> simp [State.buf, State.setBuf, Drain.setBuf, Drain.buf]

theorem State.Disciplined.enterPfDrain (h : s.Disciplined) : s.enterPfDrain.Disciplined :=
  h.congr_buf (by simp) fun c => by rw [State.enterPfDrain_buf]

theorem State.Disciplined.onAssertion (h : s.Disciplined) : s.onAssertion.Disciplined := by
  unfold State.onAssertion
  split
  · exact h.enterPfDrain
  · exact h.enterPfDrain
  · split
    · exact h.congr rfl rfl
    · exact h.congr (by simp) (by simp)
  · split
    · exact h
    · exact h.enterPfDrain
  · exact h.congr rfl rfl
  · exact h
  · exact h

end

/-! ### The commands -/

theorem exec_disciplined {c : Instr} {s : State} (h : s.Disciplined) : ∃ t, exec c s = .next t ∧ t.Disciplined := by
  have ite {c : Prop} [Decidable c] {t u : State} (ht : c → t.Disciplined) (hu : ¬ c → u.Disciplined) :
      (if c then t else u).Disciplined := by
    split
    · exact ht ‹_›
    · exact hu ‹_›
  have same {t : State} (hl : t.link = s.link) (hd : t.drain = s.drain) : t.Disciplined := h.congr hl hd
  have event {t : State} (hl : t.link = s.link) (hd : t.drain = s.drain) : t.endEvent.Disciplined := h.event hl hd
  cases c with
  | hostAccessBegin =>
    exact ⟨_, rfl, ite (fun _ => h) fun _ => ite (fun _ => same rfl rfl) fun _ => event (by simp) (by simp)⟩
  | hostAccessEnd => exact ⟨_, rfl, ite (fun _ => same (by simp) (by simp)) fun _ => h⟩
  | withdrawal p => exact ⟨_, rfl, ite (fun _ => (h.withdrawWait p).endEvent) fun _ => h⟩
  | stallTimerExpiry p => exact ⟨_, rfl, ite (fun _ => (h.expireWait p).endEvent) fun _ => h⟩
  | windowTimerExpiry => exact ⟨_, rfl, ite (fun _ => same rfl rfl) fun _ => h⟩
  | takeRun => exact ⟨_, rfl, ite (fun _ => h.takeRun.endEvent) fun _ => h⟩
  | slotArbiterServe | portModeChange | heldBackFetchEntry =>
    exact ⟨_, rfl, ite (fun _ => event (by simp) (by simp)) fun _ => h⟩
  | arbiterDecision => exact ⟨_, rfl, ite (fun _ => h.decide.congr rfl rfl) fun _ => h⟩
  | fetchCompletion =>
    refine ⟨_, rfl, ?_⟩
    split
    · rename_i hh hw
      exact ((((h.owned hh hw rfl).release nofun).disciplined).fetchDone ..).endEvent
    · exact h
  | gapReadCompletion =>
    refine ⟨_, rfl, ?_⟩
    split
    · rename_i hh hw
      exact ite (fun _ => (((h.owned hh hw rfl).setBuf _).startProgramAttempt).endEvent) fun _ => h
    · exact h
  | writeEnableCompletion =>
    refine ⟨_, rfl, ite (fun hwire => ?_) fun _ => h⟩
    have hw : s.link.wire = some .writeEnable := by simp at hwire; exact hwire.2
    obtain ⟨op, hh⟩ : ∃ op, s.link.holder = some op := Option.ne_none_iff_exists'.mp fun hn => by
      rcases (h.link.free hn).1 with hn' | hs
      · rw [hn'] at hw; cases hw
      · rw [h.link.not_stale hw rfl] at hs; cases hs
    exact (((h.owned hh hw rfl).setMemory _).issuePageWrite (h.link.wireQuiet _ hw rfl) rfl).endEvent
  | pageWriteCompletion =>
    refine ⟨_, rfl, ?_⟩
    split
    · rename_i hw
      exact ⟨h.link.pageWritten hw _, ⟨h.program.pb0, h.program.pb1⟩⟩
    · exact h
  | pollIntervalExpiry =>
    refine ⟨_, rfl, ite (fun hpoll => ?_) fun _ => h⟩
    have hpoll : s.link.pollWait = true := (Bool.and_eq_true_iff.mp hpoll).2
    exact .issue (s := s.setLink { s.link with pollWait := false }) ⟨h.program.pb0, h.program.pb1⟩ (h.link.poll hpoll)
  | readStatusCompletion st =>
    refine ⟨_, rfl, ite (fun hwire => ite (fun hs => ?_) fun hs => ?_) fun _ => h⟩
    · exact (h.afterStale (t := s.sawStatus st) hs rfl rfl fun hq => by simp [hq]).endEvent
    · have hw : s.link.wire = some .readStatus := by simp at hwire; exact hwire.2
      split
      · rename_i hh
        exact ite (fun hp => (h.judgeStatus hw (by simpa using hs) hh hp _).endEvent) fun _ => h
      · exact h
  | verifyReadCompletion =>
    refine ⟨_, rfl, ?_⟩
    split
    · rename_i hh hw
      have hserves := h.owned hh hw rfl
      exact ite (fun _ => (ite (fun _ => hserves.programSuccess.disciplined) fun _ => hserves.attemptFailed _).endEvent)
        fun _ => h
    · rename_i hh hw
      have hserves := h.owned hh hw rfl
      exact ite (fun _ => (ite (fun _ => hserves.markerSuccess.disciplined) fun _ => hserves.markerAttemptFailed _).endEvent)
        fun _ => h
    · exact h
  | throughWaiterOutcome => exact ⟨_, rfl, ite (fun _ => same (by simp) (by simp)) fun _ => h⟩
  | programTimerExpiry =>
    refine ⟨_, rfl, ite (fun htimer => ?_) fun _ => h⟩
    have htimer : s.link.programTimer.isSome = true := (Bool.and_eq_true_iff.mp htimer).2
    split
    · exact ((h.timedOut htimer ‹_›).attemptFailed _).endEvent
    · exact ((h.timedOut htimer ‹_›).markerAttemptFailed _).endEvent
    · exact ((h.timedOut (op := .directWrite) htimer ‹_›).endDirect nofun _ _).disciplined.endEvent
    · exact h
  | settleLimitExpiry =>
    refine ⟨_, rfl, ?_⟩
    split
    · rename_i k _ hh
      obtain ⟨hidle, hleft⟩ := Link.abandon_idle (h.link.settle_left hh)
      exact (h.released hh nofun (t := s.setLink s.link.abandon) (Link.release_ready hidle rfl hleft)
        rfl).settleDone.disciplined.endEvent
    · exact h
  | pinWaitEnd => exact ⟨_, rfl, ite (fun _ => h.endPinWait) fun _ => h⟩
  | directWaitLimitExpiry => exact ⟨_, rfl, ite (fun _ => event (by simp) (by simp)) fun _ => h⟩
  | directIdCompletion =>
    refine ⟨_, rfl, ite (fun hguard => ?_) fun _ => h⟩
    simp at hguard
    obtain ⟨⟨⟨-, hs⟩, hh⟩, hw⟩ := hguard
    exact ((h.wireDone hh hw hs nofun).endDirect nofun _ _).disciplined.endEvent
  | directStatusCompletion st =>
    refine ⟨_, rfl, ite (fun hguard => ?_) fun _ => h⟩
    simp at hguard
    obtain ⟨⟨⟨-, hs⟩, hh⟩, -⟩ := hguard
    have hfree := h.released hh nofun (t := s.sawStatus st) (h.sawStatus_release hs st) rfl
    exact hfree.disciplined.event (by simp [State.endDirect]) (by simp [State.endDirect])
  | directReadCompletion =>
    refine ⟨_, rfl, ?_⟩
    split
    · rename_i hh hw
      exact ite (fun _ => ((h.owned hh hw rfl).endDirect nofun _ _).disciplined.endEvent) fun _ => h
    · exact h
  | probeReadIdCompletion b0 b1 b2 =>
    refine ⟨_, rfl, ite (fun hwire => ite (fun hs => ?_) fun hs => ite (fun hh => ?_) fun _ => h) fun _ => h⟩
    · exact (h.afterStale (t := s.setLink s.link.wireDone) hs rfl rfl id).endEvent
    · have hw : s.link.wire = some .readId := by simp at hwire; exact hwire.2
      have hserves := h.wireDone (by simpa using hh) hw (by simpa using hs) nofun
      refine (ite (fun _ => ?_) fun _ => ?_).endEvent
      · exact (hserves.release nofun).disciplined.congr (by simp [State.probeSilent]) (by simp [State.probeSilent])
      · exact .issue hserves.program (hserves.ready.issue (by rw [hserves.holder]; nofun) nofun nofun (fun _ _ => rfl)
          fun _ => .inr ⟨rfl, rfl⟩)
  | probeBusyTimerExpiry =>
    refine ⟨_, rfl, ite (fun hguard => ?_) fun _ => h⟩
    have hh : s.link.holder = some .probe := by simp at hguard; exact hguard.2
    obtain ⟨hidle, hleft⟩ := Link.abandon_idle (h.link.probe hh).2
    have hfree := h.released hh nofun (t := s.setLink s.link.abandon) (Link.release_ready hidle rfl hleft) rfl
    exact hfree.disciplined.event (by simp [State.startupFailed]) (by simp [State.startupFailed])
  | markerReadCompletion =>
    refine ⟨_, rfl, ?_⟩
    split
    · rename_i hh hw
      exact ite (fun _ => ((h.owned hh hw rfl).release nofun).disciplined.event (by simp) (by simp)) fun _ => h
    · exact h
  | pfailnFall => exact ⟨_, rfl, ite (fun _ => h) fun _ => same rfl rfl⟩
  | pfailnRise => exact ⟨_, rfl, ite (fun _ => same rfl rfl) fun _ => h⟩
  | filteredAssertion =>
    have hset : (s.setControl { s.control with filtered := true, filterTimer := false }).Disciplined := same rfl rfl
    exact ⟨_, rfl, ite (fun _ => hset.onAssertion.endEvent) fun _ => h⟩
  | filteredRelease => exact ⟨_, rfl, ite (fun _ => event (by simp) (by simp)) fun _ => h⟩
  | rstnFall => exact ⟨_, rfl, ite (fun _ => (State.unheld_of_reset rfl rfl).disciplined) fun _ => h⟩
  | rstnRise => exact ⟨_, rfl, ite (fun _ => h) fun _ => (State.unheld_of_reset rfl rfl).disciplined.endEvent⟩
  | frameCutShort | ssnRiseAfterReset | unknownCommand | status | readMarkerReport | readCounters | clearCounters
  | setIrqMask => exact ⟨_, rfl, ite (fun _ => same rfl rfl) fun _ => h⟩
  | result | readFault =>
    refine ⟨_, rfl, ite (fun _ => ?_) fun _ => h⟩
    split
    · exact same rfl rfl
    · exact same rfl rfl
  | readActive | readShadow =>
    exact ⟨_, rfl, ite (fun _ => ite (fun _ => same rfl rfl) fun _ => same rfl rfl) fun _ => h⟩
  | writeShadow =>
    exact ⟨_, rfl, ite (fun _ => ite (fun _ => same rfl rfl) fun _ => ite (fun _ => same rfl rfl) fun _ => same rfl rfl)
      fun _ => h⟩
  | revertShadow => exact ⟨_, rfl, ite (fun _ => ite (fun _ => same rfl rfl) fun _ => same rfl rfl) fun _ => h⟩
  | apply =>
    refine ⟨_, rfl, ite (fun _ => ?_) fun _ => h⟩
    split
    · exact same rfl rfl
    · refine ite (fun _ => same rfl rfl) fun _ => ite (fun _ => same rfl rfl) fun _ => ?_
      split
      · exact same rfl rfl
      · exact event (by simp) (by simp)
  | applyCompletion => exact ⟨_, rfl, ite (fun _ => event (by simp) (by simp)) fun _ => h⟩
  | flush =>
    refine ⟨_, rfl, ite (fun _ => ?_) fun _ => h⟩
    split
    · exact same rfl rfl
    · exact ite (fun _ => same rfl rfl) fun _ => event rfl rfl
  | flushCompletion => exact ⟨_, rfl, ite (fun _ => same (by simp) (by simp)) fun _ => h⟩
  | directId | directStatus | directRead | directWrite =>
    refine ⟨_, rfl, ite (fun _ => ?_) fun _ => h⟩
    split
    · exact same rfl rfl
    · exact event rfl rfl
  | retryHeld =>
    refine ⟨_, rfl, ite (fun _ => ?_) fun _ => h⟩
    split
    · exact same rfl rfl
    · exact ite (fun _ => (h.setBuf rfl).event rfl rfl) fun _ => same rfl rfl
  | releaseHeld =>
    refine ⟨_, rfl, ite (fun _ => ?_) fun _ => h⟩
    split
    · exact same rfl rfl
    · exact ite (fun _ => (h.releaseBuffer _).event rfl rfl) fun _ => same rfl rfl
  | reprobe =>
    exact ⟨_, rfl, ite (fun _ => ite (fun _ => event (by simp) (by simp)) fun _ => same rfl rfl) fun _ => h⟩

end Sys2Proof.Machine

open Sys2Proof.Machine in
/-- Settles O57: the law and the buffers' discipline are kept together, command by command. -/
theorem stepKeepsLinkDiscipline : Obligations.StepKeepsLinkDiscipline := by
  unfold Obligations.StepKeepsLinkDiscipline
  intro s t hlink hprogram hstep
  have h : s.Disciplined := ⟨hlink, hprogram⟩
  unfold step at hstep
  split at hstep
  · cases hstep; exact ⟨hlink, hprogram⟩
  · rename_i c rest _
    obtain ⟨u, hu, hd⟩ := exec_disciplined (c := c) (h.congr (t := s.setPending rest) rfl rfl)
    rw [hu] at hstep
    cases hstep
    exact ⟨hd.link, hd.program⟩
end


section
/-! PROOF. The host ports (01): what a port sees of a begin, and the answer of its access by mode, classification, queue and
lookup (O1, O2, O5, O6, O8, O9, O10, O11). -/
namespace Sys2Proof.Machine

/-! ### The access of a port -/

section
variable {r : PortRec} {acc : Access}

theorem PortRec.reads_eq (h : r.access = some acc) : r.reads = !acc.write := by simp [PortRec.reads, h]

theorem PortRec.writes_eq (h : r.access = some acc) : r.writes = acc.write := by simp [PortRec.writes, h]

theorem PortRec.address_eq (h : r.access = some acc) : r.address = evenAddr24 acc.addr := by simp [PortRec.address, h]

end

/-! ### A write offered and a read handed on (01 R10, R13, R14; 03 R48 to R51) -/

section
variable {s : State} {p : Port} {acc : Access} {r : RefusalReason} {c : AccessClass} {q : Queue} {ans : Answer}

/-- The record of a refused access (01 R10; log 33). -/
def State.refusal (s : State) (p : Port) (acc : Access) (r : RefusalReason) : FaultRecord :=
  { kind := if acc.write then .writeRefused else .readRefused, source := portSource p, epoch := s.control.epoch,
    address := some (evenAddr24 acc.addr), retained := if acc.write then some false else none, detail := r.code }

theorem State.offerWrite_refused (ha : (s.port p).access = some acc) (hw : acc.write = true)
    (hr : s.classify p true (evenAddr acc.addr) = .refused r) :
    s.offerWrite p = (s.setPort p ((s.port p).completed true none)).addFault (s.refusal p acc r) := by
  simp [State.offerWrite, State.refuseWrite, State.completeError, State.refusal, ha, hr, hw, PortRec.reads_eq ha,
    PortRec.address_eq ha]

theorem State.offerWrite_noSlot (ha : (s.port p).access = some acc)
    (hc : s.classify p true (evenAddr acc.addr) = .classed c)
    (hq : s.queue.offer (acc.offer p c) s.coalesceWindow s.hwm = (.noSlot, q)) :
    s.offerWrite p
      = s.setPort p { s.port p with state := .slotWait, waitStart := some ((s.port p).waitStart.getD s.now) } := by
  simp [State.offerWrite, State.waitForSlot, ha, hc, hq]

theorem State.writeAccepted_eq (merged : Bool) :
    (s.setQueue q).writeAccepted p c merged
      = (if merged then (s.setQueue q).countWriteAccepted.countMerge else (s.setQueue q).countWriteAccepted).setPort p
          (if c = .through then { s.port p with state := .throughWait, waitStart := none, seq := some q.counter }
            else (s.port p).completed false none) := by
  cases p <;> cases merged <;> by_cases hc : c = .through <;> simp [State.writeAccepted, hc] <;> rfl

theorem State.offerWrite_taken (ha : (s.port p).access = some acc)
    (hc : s.classify p true (evenAddr acc.addr) = .classed c)
    (hq : s.queue.offer (acc.offer p c) s.coalesceWindow s.hwm = (ans, q)) (hans : ans ≠ .noSlot) :
    s.offerWrite p
      = (if ans = .merged then (s.setQueue q).countWriteAccepted.countMerge else (s.setQueue q).countWriteAccepted).setPort p
          (if c = .through then { s.port p with state := .throughWait, waitStart := none, seq := some q.counter }
            else (s.port p).completed false none) := by
  cases ans with
  | noSlot => exact absurd rfl hans
  | merged => simp [State.offerWrite, ha, hc, hq, State.writeAccepted_eq]
  | allocated => simp [State.offerWrite, ha, hc, hq, State.writeAccepted_eq]

theorem State.handRead_refused (ha : (s.port p).access = some acc) (hw : acc.write = false)
    (hr : s.classify p false (evenAddr acc.addr) = .refused r) :
    s.handRead p = (s.setPort p ((s.port p).completed true (some s.fill))).addFault (s.refusal p acc r) := by
  simp [State.handRead, State.refuseRead, State.completeError, State.refusal, ha, hr, hw, PortRec.reads_eq ha,
    PortRec.address_eq ha]

/-- What the lookup finds for a lane of the access (03 R49, R50). -/
def State.lane (s : State) (enabled : Bool) (a : Nat) : Option Byte := if enabled then s.lookup a else none

theorem State.handRead_found (ha : (s.port p).access = some acc)
    (hc : s.classify p false (evenAddr acc.addr) = .classed c) {lo up : Option Byte}
    (hlo : lo = s.lane acc.lower (evenAddr acc.addr)) (hup : up = s.lane acc.upper (evenAddr acc.addr + 1))
    (hl : acc.lower = true → lo.isSome = true) (hu : acc.upper = true → up.isSome = true) :
    s.handRead p = s.setPort p ((s.port p).completed false
      (some (up.getD (globalsFillUpper s.active.globals) ++ lo.getD (globalsFillLower s.active.globals)))) := by
  subst hlo hup
  have hmiss : ((acc.lower && (s.lane acc.lower (evenAddr acc.addr)).isNone)
      || (acc.upper && (s.lane acc.upper (evenAddr acc.addr + 1)).isNone)) = false := by
    cases hlow : acc.lower <;> cases hupp : acc.upper <;> simp_all
  simp only [State.lane] at hmiss ⊢
  simp only [State.handRead, ha, hc, State.acceptRead, hmiss]
  rfl

theorem State.handRead_fetch (ha : (s.port p).access = some acc)
    (hc : s.classify p false (evenAddr acc.addr) = .classed c) {lo up : Option Byte}
    (hlo : lo = s.lane acc.lower (evenAddr acc.addr)) (hup : up = s.lane acc.upper (evenAddr acc.addr + 1))
    (hm : (acc.lower = true ∧ lo = none) ∨ (acc.upper = true ∧ up = none)) :
    s.handRead p = (s.setReads (s.reads.enter
        { port := p, addr := acc.addr, needLower := acc.lower && lo.isNone, needUpper := acc.upper && up.isNone,
          capturedLower := lo, capturedUpper := up, order := s.now, state := .waiting, orphaned := false })).setPort p
      { s.port p with state := .fetchWait, waitStart := none } := by
  have hmiss : ((acc.lower && lo.isNone) || (acc.upper && up.isNone)) = true := by
    rcases hm with ⟨h, rfl⟩ | ⟨h, rfl⟩ <;> simp [h]
  subst hlo hup
  simp only [State.lane] at hmiss ⊢
  simp only [State.handRead, ha, hc, State.acceptRead, hmiss]
  rfl

end

/-! ### The begin of an access (01 R1, R2, R12) -/

section
variable {s : State} {p : Port} {we oe held lower upper : Bool} {addr : BitVec 23} {data : BitVec 16}

theorem exec_hostAccessBegin_seen (h : s.SeesBegin p we oe held) :
    exec (.hostAccessBegin p we oe addr lower upper data held) s
      = .next (s.beginAccess p ⟨we, addr, lower, upper, data⟩).endEvent := by
  obtain ⟨hr, hidle, hstrobe, rfl⟩ := h
  have hguard : (!s.rstn || (s.port p).state != .idle || !(we || oe)) = false := by simp [hr, hidle, hstrobe]
  simp only [exec, execHostAccessBegin, hguard]
  rfl

theorem State.capture_eq (acc : Access) : s.capture p acc = s.setPort p (s.captured acc) := rfl

/-- An access with a lane enabled is handled by the mode, on the state that has captured it. -/
theorem State.beginAccess_lane (hlane : (lower || upper) = true) :
    s.beginAccess p ⟨we, addr, lower, upper, data⟩
      = (s.setPort p (s.captured ⟨we, addr, lower, upper, data⟩)).handleByMode p we := by
  have hno : (!lower && !upper) = false := by rw [← Bool.not_or, hlane]; rfl
  simp only [State.beginAccess, hno, State.capture_eq]
  rfl

/-- The completion of an access that the port has just captured. -/
theorem setPort_captured_completed (acc : Access) (error : Bool) (out : Option (BitVec 16)) :
    (s.setPort p (s.captured acc)).setPort p (((s.setPort p (s.captured acc)).port p).completed error out)
      = s.setPort p (endingOf acc error out) := by
  rw [State.setPort_port_same, State.setPort_setPort]
  rfl

theorem State.fill_setPort (r : PortRec) : (s.setPort p r).fill = s.fill := State.fill_congr (by simp)

theorem State.classify_setPort (r : PortRec) (q : Port) (w : Bool) (a : Nat) :
    (s.setPort p r).classify q w a = s.classify q w a :=
  State.classify_congr (by simp) (by simp) q w a

theorem State.completeError_captured (acc : Access) :
    (s.setPort p (s.captured acc)).completeError p
      = s.setPort p (endingOf acc true (if acc.write then none else some s.fill)) := by
  unfold State.completeError
  rw [setPort_captured_completed, State.setPort_port_same, PortRec.reads_eq (acc := acc) rfl, State.fill_setPort]
  cases acc.write <;> rfl

theorem State.refusal_setPort (r : PortRec) (acc : Access) (why : RefusalReason) :
    (s.setPort p r).refusal p acc why = s.refusal p acc why := by simp [State.refusal]

/-- In the modes that classify a begun read at once, it is handed on (01 R12, R14). -/
theorem State.handleByMode_read (h : s.control.mode.ReadsAtOnce) : s.handleByMode p false = s.handRead p := by
  rcases h with h | h | h | h | h <;> simp [State.handleByMode, h]

theorem State.handleByMode_write (h : s.control.mode = .running) : s.handleByMode p true = s.offerWrite p := by
  simp [State.handleByMode, h]

theorem State.stallForMode_captured (acc : Access) :
    (s.setPort p (s.captured acc)).stallForMode p acc.write
      = s.setPort p { s.captured acc with waitStart := if acc.write then some s.now else none } := by
  unfold State.stallForMode
  rw [State.setPort_port_same, State.setPort_setPort]
  simp [State.captured]

end

end Sys2Proof.Machine

open Sys2Proof Sys2Proof.Machine

/-- Settles O1: `step` unfolded. -/
theorem stepRunsFrontCommand : Obligations.StepRunsFrontCommand := by
  refine ⟨fun c rest s => rfl, fun s h => ?_⟩
  simp [step, h]

/-- Settles O2: every block is written out in `State.reset`, and the laws are those of `coldReset_meetsLaws` and of a FREE
link. -/
theorem resetLeavesColdResetState : Obligations.ResetLeavesColdResetState := by
  have hlaws := State.coldReset_meetsLaws State.reset {}
  have hfree : State.reset.Unheld := State.unheld_of_reset rfl rfl
  refine ⟨rfl, fun p => ?_, rfl, rfl, rfl, rfl, fun b => ?_, rfl, rfl, rfl, rfl, rfl, rfl, rfl, rfl, rfl, rfl, rfl, rfl, rfl,
    rfl, rfl, rfl, rfl, rfl, rfl, rfl, rfl, rfl, rfl, rfl, rfl, hlaws.queue, ?_, hfree.disciplined.link,
    hfree.disciplined.program, hlaws.faults, ?_, hlaws.reads, fun _ => ⟨rfl, rfl, rfl, rfl, rfl, rfl, rfl, rfl, rfl, rfl, rfl⟩,
    rfl, rfl⟩
  · cases p <;> exact ⟨rfl, rfl, rfl, rfl, rfl⟩
  · cases b <;> exact ⟨rfl, rfl, rfl⟩
  · exact ⟨hlaws.bytes.entries, hlaws.bytes.pb0, hlaws.bytes.pb1, hlaws.bytes.wire, hlaws.bytes.queued⟩
  · exact ⟨hlaws.config.active, hlaws.config.shadow⟩

/-- Settles O5: the begin without a lane, on the state that has captured the access. -/
theorem noLaneAccessCompletes : Obligations.NoLaneAccessCompletes := by
  intro s p we oe held addr data h
  rw [exec_hostAccessBegin_seen h]
  have hdone : s.beginAccess p ⟨we, addr, false, false, data⟩
      = s.setPort p (endingOf ⟨we, addr, false, false, data⟩ false (if we then none else some s.fill)) := by
    simp only [State.beginAccess, State.completeNoLane, State.completeNormal, State.capture_eq, setPort_captured_completed,
      State.fill_setPort]
    rfl
  rw [hdone]

/-- Settles O6: `handleByMode` in each mode that neither classifies nor offers. -/
theorem accessHeldOrRefusedByMode : Obligations.AccessHeldOrRefusedByMode := by
  intro s p we oe held lower upper addr data h hlane
  rw [exec_hostAccessBegin_seen h, State.beginAccess_lane hlane]
  refine ⟨fun hm => ?_, fun hm hw => ?_, fun hm hw => ?_, fun hm => ?_⟩
  · have := State.stallForMode_captured (s := s) (p := p) ⟨we, addr, lower, upper, data⟩
    simp only [State.handleByMode, State.setPort_frame, hm]
    rw [this]
  · subst hw
    have := State.stallForMode_captured (s := s) (p := p) ⟨true, addr, lower, upper, data⟩
    simp only [State.handleByMode, State.setPort_frame, hm, if_true]
    rw [this]
    rfl
  · subst hw
    have := State.completeError_captured (s := s) (p := p) ⟨true, addr, lower, upper, data⟩
    rcases hm with hm | hm | hm <;>
    · simp only [State.handleByMode, State.setPort_frame, hm, if_true, State.refusePf]
      rw [this]
      rfl
  · simp only [State.handleByMode, State.setPort_frame, hm, State.completeError_captured]

/-- Settles O8: an access is refused by `handRead` in the modes that read at once, and by `offerWrite` in RUNNING. -/
theorem refusedAccessRecordsFault : Obligations.RefusedAccessRecordsFault := by
  refine ⟨fun r => by cases r <;> rfl, fun p => by cases p <;> rfl, ?_⟩
  intro s p we oe held lower upper addr data r h hlane hr hrun hread
  have hclass := State.classify_setPort (s := s) (p := p) (s.captured ⟨we, addr, lower, upper, data⟩) p we (evenAddr addr)
  have hcaptured : ((s.setPort p (s.captured ⟨we, addr, lower, upper, data⟩)).port p).access
      = some ⟨we, addr, lower, upper, data⟩ := by rw [State.setPort_port_same]; rfl
  rw [exec_hostAccessBegin_seen h, State.beginAccess_lane hlane]
  cases we with
  | true =>
    rw [State.handleByMode_write (by simpa using hrun rfl), State.offerWrite_refused hcaptured rfl (hclass.trans hr),
      setPort_captured_completed, State.refusal_setPort]
    rfl
  | false =>
    rw [State.handleByMode_read (by simpa using hread rfl), State.handRead_refused hcaptured rfl (hclass.trans hr),
      setPort_captured_completed, State.refusal_setPort, State.fill_setPort]
    rfl

/-- Settles O9: `offerWrite` on the state that has captured the write. -/
theorem offeredWriteGetsAnswer : Obligations.OfferedWriteGetsAnswer := by
  intro s p we oe held lower upper addr data c ans q h hw hlane hm hc hq
  subst hw
  have hclass := State.classify_setPort (s := s) (p := p) (s.captured ⟨true, addr, lower, upper, data⟩) p true (evenAddr addr)
  have hcaptured : ((s.setPort p (s.captured ⟨true, addr, lower, upper, data⟩)).port p).access
      = some ⟨true, addr, lower, upper, data⟩ := by rw [State.setPort_port_same]; rfl
  have hoffer : (s.setPort p (s.captured ⟨true, addr, lower, upper, data⟩)).queue.offer
      (Access.offer ⟨true, addr, lower, upper, data⟩ p c)
      (s.setPort p (s.captured ⟨true, addr, lower, upper, data⟩)).coalesceWindow
      (s.setPort p (s.captured ⟨true, addr, lower, upper, data⟩)).hwm = (ans, q) := by
    rw [State.coalesceWindow_congr (s := s) (by simp), State.hwm_congr (s := s) (by simp)]
    simpa using hq
  rw [exec_hostAccessBegin_seen h, State.beginAccess_lane hlane, State.handleByMode_write (by simpa using hm)]
  refine ⟨?_, ?_, ?_, ?_⟩
  · rintro rfl
    rw [State.offerWrite_noSlot hcaptured (hclass.trans hc) hoffer, State.setPort_port_same, State.setPort_setPort]
    simp [State.captured]
  · rintro rfl hthrough
    rw [State.offerWrite_taken hcaptured (hclass.trans hc) hoffer nofun, if_neg nofun, if_neg hthrough,
      State.setPort_port_same]
    cases p <;> rfl
  · rintro rfl hthrough
    rw [State.offerWrite_taken hcaptured (hclass.trans hc) hoffer nofun, if_pos rfl, if_neg hthrough,
      State.setPort_port_same]
    cases p <;> rfl
  · rintro rfl hthrough
    rw [State.offerWrite_taken hcaptured (hclass.trans hc) hoffer nofun, if_neg nofun, if_pos hthrough,
      State.setPort_port_same]
    cases p <;> rfl
end


section
/-! PROOF. What each port operation leaves at the other port, the two ports together, and the lookup of a byte (O10, O11,
O19, O32). -/
namespace Sys2Proof.Machine

section
variable {s t : State} {p q : Port}

theorem State.port_congr (h : t.ports = s.ports) (q : Port) : t.port q = s.port q := by simp only [State.port, h]

theorem State.port_ite {c : Prop} [Decidable c] {u : State} (ht : t.port q = s.port q) (hu : u.port q = s.port q) :
    (if c then t else u).port q = s.port q := by
  split
  · exact ht
  · exact hu

theorem Port.eq_B_of_ne_A {p : Port} (h : p ≠ .A) : p = .B := by
  cases p with
  | A => exact absurd rfl h
  | B => rfl

/-! ### The other port -/

theorem State.completeError_port_ne (h : q ≠ p) : (s.completeError p).port q = s.port q := State.setPort_port_ne _ _ h

theorem State.completeNormal_port_ne (data : Option (BitVec 16)) (h : q ≠ p) :
    (s.completeNormal p data).port q = s.port q := State.setPort_port_ne _ _ h

theorem State.acceptRead_port_ne (h : q ≠ p) : (s.acceptRead p).port q = s.port q := by
  unfold State.acceptRead
  split
  · rfl
  · exact State.port_ite ((State.setPort_port_ne _ _ h).trans rfl) (State.completeNormal_port_ne _ h)

theorem State.handRead_port_ne (h : q ≠ p) : (s.handRead p).port q = s.port q := by
  unfold State.handRead
  split
  · rfl
  · split
    · exact State.completeError_port_ne h
    · exact State.acceptRead_port_ne h

theorem State.offerWrite_port_ne (h : q ≠ p) : (s.offerWrite p).port q = s.port q := by
  unfold State.offerWrite
  split
  · rfl
  · split
    · exact State.completeError_port_ne h
    · split
      · rw [State.writeAccepted_eq, State.setPort_port_ne _ _ h]; rfl
      · rw [State.writeAccepted_eq, State.setPort_port_ne _ _ h]; rfl
      · exact State.setPort_port_ne _ _ h

/-! ### Reads handed on and writes offered at both ports (01 R15, R16; 02 R41) -/

theorem State.readsHandedOn_eq (s : State) : s.readsHandedOn = (s.releaseRead .A).releaseRead .B := by
  have hB : (s.handRead .A).port .B = s.port .B := State.handRead_port_ne nofun
  unfold State.readsHandedOn State.releaseRead
  cases hA : (s.port .A).stalledRead <;> cases hB' : (s.port .B).stalledRead <;>
    simp only [hB', hB, if_true, if_false, Bool.false_eq_true]

theorem State.writesOffered_eq (s : State) : s.writesOffered = s.servePending := by
  have hA : (s.offerWrite .B).port .A = s.port .A := State.offerWrite_port_ne nofun
  have hB : (s.offerWrite .A).port .B = s.port .B := State.offerWrite_port_ne nofun
  unfold State.writesOffered State.servePending State.offerPending
  cases hpa : (s.port .A).pendingWrite <;> cases hpb : (s.port .B).pendingWrite
  · simp only [hpa, hpb, if_false, Bool.false_eq_true, ite_self]
  · simp only [hpa, hpb, hA, if_true, if_false, Bool.false_eq_true, ite_self]
  · simp only [hpa, hpb, hB, if_true, if_false, Bool.false_eq_true, ite_self]
  · unfold State.servesBFirst
    cases (s.port .A).waitStart <;> cases (s.port .B).waitStart <;>
      simp only [hpa, hpb, hA, hB, if_true, if_false, Bool.false_eq_true, decide_eq_true_eq]

/-- With one pending write the slot arbiter offers that one. -/
theorem State.servePending_one (hpq : p ≠ q) (hp : (s.port p).pendingWrite = true) (hq : (s.port q).pendingWrite = false) :
    s.servePending = s.offerWrite p := by
  rw [← State.writesOffered_eq]
  unfold State.writesOffered
  cases p with
  | A =>
    obtain rfl := Port.eq_B_of_ne_A hpq.symm
    rw [hp, hq]
  | B =>
    cases q with
    | A => rw [hp, hq]
    | B => exact absurd rfl hpq

theorem State.servePending_none (h : ∀ p, (s.port p).pendingWrite = false) : s.servePending = s := by
  rw [← State.writesOffered_eq]
  unfold State.writesOffered
  rw [h .A, h .B]

theorem State.servePending_both (hA : (s.port .A).pendingWrite = true) (hB : (s.port .B).pendingWrite = true) {wa wb : Nat}
    (ha : (s.port .A).waitStart = some wa) (hb : (s.port .B).waitStart = some wb) :
    s.servePending = if wb < wa then (s.offerWrite .B).offerWrite .A else (s.offerWrite .A).offerWrite .B := by
  rw [← State.writesOffered_eq]
  unfold State.writesOffered
  rw [hA, hB]
  simp only [ha, hb]

/-! ### The outcome of a program at its waiters (01 R17; 04 R81, R84) -/

theorem State.throughOutcome_port_ne (success : Bool) (h : q ≠ p) : (s.throughOutcome p success).port q = s.port q := by
  unfold State.throughOutcome
  split
  · split
    · exact State.completeNormal_port_ne _ h
    · exact State.completeError_port_ne h
  · rfl

end

section
variable (s : State) (p : Port) (success : Bool)

/-- What the outcome of a program makes of a port. -/
theorem State.throughOutcome_port : (s.throughOutcome p success).port p
    = if (s.port p).state = .throughWait
      then (s.port p).completed (!success) (if success = false ∧ (s.port p).reads = true then some s.fill else none)
      else s.port p := by
  unfold State.throughOutcome
  by_cases hw : (s.port p).state = .throughWait
  · cases success <;> simp [hw, State.completeNormal, State.completeError]
  · simp [hw]

theorem State.throughOutcome_ports_only : { s.throughOutcome p success with ports := s.ports } = s := by
  unfold State.throughOutcome
  split
  · cases success <;> cases p <;> rfl
  · rfl

/-- Each port is told by itself: what port B is told does not depend on what port A was told. -/
theorem State.tellWaiters_port (w : PortSet) (p : Port) : (s.tellWaiters w success).port p
    = if w.has p = true ∧ (s.port p).state = .throughWait
      then (s.port p).completed (!success) (if success = false ∧ (s.port p).reads = true then some s.fill else none)
      else s.port p := by
  obtain ⟨toA, toB⟩ := w
  have hB : (s.throughOutcome .A success).port .B = s.port .B := State.throughOutcome_port_ne success nofun
  have hA (u : State) : (u.throughOutcome .B success).port .A = u.port .A := State.throughOutcome_port_ne success nofun
  have hfill : (s.throughOutcome .A success).fill = s.fill := State.fill_congr (by simp)
  cases p with
  | A =>
    have hlast : (s.tellWaiters ⟨toA, toB⟩ success).port .A = (if toA then s.throughOutcome .A success else s).port .A := by
      unfold State.tellWaiters
      cases toB
      · rfl
      · exact hA _
    rw [hlast]
    cases toA
    · simp [PortSet.has]
    · exact (s.throughOutcome_port .A success).trans (if_iff_congr (by simp [PortSet.has]) rfl rfl)
  | B =>
    unfold State.tellWaiters
    cases toB
    · cases toA
      · simp [PortSet.has]
      · simpa [PortSet.has] using hB
    · cases toA
      · exact (s.throughOutcome_port .B success).trans (if_iff_congr (by simp [PortSet.has]) rfl rfl)
      · have := (s.throughOutcome .A success).throughOutcome_port .B success
        rw [hB, hfill] at this
        exact this.trans (if_iff_congr (by simp [PortSet.has]) rfl rfl)

theorem State.tellWaiters_ports_only (w : PortSet) : { s.tellWaiters w success with ports := s.ports } = s := by
  obtain ⟨toA, toB⟩ := w
  have hone (u : State) (p : Port) : { u.throughOutcome p success with ports := s.ports } = { u with ports := s.ports } :=
    congrArg (fun v : State => { v with ports := s.ports }) (u.throughOutcome_ports_only p success)
  unfold State.tellWaiters
  cases toA <;> cases toB
  · rfl
  · exact hone s .B
  · exact hone s .A
  · exact (hone _ .B).trans (hone s .A)

end

/-! ### The lookup of a byte (02 R44; 03 R49) -/

/-- What one entry shows of a byte. -/
def Entry.shows (e : Entry) (a : Nat) : Option Byte :=
  if e.line = lineOf a then cellsGet e.bytes (a % Config.lineBytes) else none

theorem Queue.lookup_eq (q : Queue) (a : Nat) : q.lookup a = q.entries.reverse.findSome? fun e => e.shows a := rfl

theorem Queue.lookup_none {q : Queue} {a : Nat} (h : ∀ e ∈ q.entries, e.shows a = none) : q.lookup a = none := by
  rw [Queue.lookup_eq, List.findSome?_eq_none_iff]
  simpa using h

theorem Queue.lookup_some {q : Queue} {a : Nat} {older younger : List Entry} {e : Entry} {v : Byte}
    (hq : q.entries = older ++ e :: younger) (he : e.shows a = some v) (hy : ∀ f ∈ younger, f.shows a = none) :
    q.lookup a = some v := by
  have hyounger : (younger.reverse.findSome? fun e => e.shows a) = none := by
    rw [List.findSome?_eq_none_iff]; simpa using hy
  rw [Queue.lookup_eq, hq]
  simp [List.findSome?_append, hyounger, he]

theorem PageBuffer.lookup_eq (b : PageBuffer) (a : Nat) :
    b.lookup a = if b.state ≠ .free ∧ b.page = a / 256 then cellsGet b.bytes (a % 256) else none := by
  unfold PageBuffer.lookup
  by_cases hs : b.state = .free <;> by_cases hp : b.page = a / 256 <;> simp [hs, hp, pageOf, Config.pageBytes]

theorem PageBuffer.lookup_free {b : PageBuffer} (h : b.state = .free) (a : Nat) : b.lookup a = none := by
  simp [PageBuffer.lookup, h]

/-- Of two buffers the younger shows a byte first; a FREE one shows none, so the order does not matter beside it. -/
theorem State.drain_lookup (s : State) (a : Nat) (b : Buf)
    (h : (s.buf b.other).stamp < (s.buf b).stamp ∨ (s.buf b).state = .free ∨ (s.buf b.other).state = .free) :
    s.drain.lookup a = ((s.buf b).lookup a).or ((s.buf b.other).lookup a) := by
  unfold Drain.lookup
  rcases h with h | h | h
  · cases b with
    | pb0 => exact if_neg (Nat.not_lt.mpr (Nat.le_of_lt h))
    | pb1 => exact if_pos h
  · have hnone := PageBuffer.lookup_free h a
    cases b <;> split <;> simp_all [State.buf, Drain.buf, Buf.other]
  · have hnone := PageBuffer.lookup_free h a
    cases b <;> split <;> simp_all [State.buf, Drain.buf, Buf.other]

end Sys2Proof.Machine

open Sys2Proof Sys2Proof.Machine

/-- Settles O10: the lookup is a search from the youngest entry on, then of the younger buffer, and the read is handed on. -/
theorem acceptedReadIsLookedUp : Obligations.AcceptedReadIsLookedUp := by
  refine ⟨fun q a => ⟨fun h => ?_, fun older younger e v hq he hv hy => ?_⟩, ?_, ?_⟩
  · exact Queue.lookup_none fun e he => by
      unfold Entry.shows
      split
      · exact h e he ‹_›
      · rfl
  · refine Queue.lookup_some hq ((if_pos he).trans hv) fun f hf => ?_
    unfold Entry.shows
    split
    · exact hy f hf ‹_›
    · rfl
  · rintro s a b x y h rfl rfl
    rw [← PageBuffer.lookup_eq, ← PageBuffer.lookup_eq, Option.or_assoc, ← State.drain_lookup s a b h]
    rfl
  · intro s p oe held lower upper addr data c lo up h hlane hm hc hlo hup
    have hclass := State.classify_setPort (s := s) (p := p) (s.captured ⟨false, addr, lower, upper, data⟩) p false
      (evenAddr addr)
    have hcaptured : ((s.setPort p (s.captured ⟨false, addr, lower, upper, data⟩)).port p).access
        = some ⟨false, addr, lower, upper, data⟩ := by rw [State.setPort_port_same]; rfl
    have hlook : ∀ a, (s.setPort p (s.captured ⟨false, addr, lower, upper, data⟩)).lookup a = s.lookup a :=
      State.lookup_congr (by simp) (by simp)
    have hlo : lo = (s.setPort p (s.captured ⟨false, addr, lower, upper, data⟩)).lane lower (evenAddr addr) := by
      rw [hlo, State.lane, hlook]
    have hup : up = (s.setPort p (s.captured ⟨false, addr, lower, upper, data⟩)).lane upper (evenAddr addr + 1) := by
      rw [hup, State.lane, hlook]
    rw [exec_hostAccessBegin_seen h, State.beginAccess_lane hlane, State.handleByMode_read (by simpa using hm)]
    refine ⟨fun hl hu => ?_, fun hmiss f hf => ?_⟩
    · rw [State.handRead_found hcaptured (hclass.trans hc) hlo hup hl hu, setPort_captured_completed]
      simp
    · subst hf
      rw [State.handRead_fetch hcaptured (hclass.trans hc) hlo hup hmiss, State.setPort_port_same,
        State.setPort_setReads, State.setPort_setPort]
      simp only [State.setPort_frame]
      rfl

/-- Settles O11: the guards of the begin and of the end of an access. -/
theorem accessEndFreesPort : Obligations.AccessEndFreesPort := by
  refine ⟨fun s p => ⟨?_, ?_⟩, fun s p hr hend => ⟨?_, ?_⟩, fun s p we oe lower upper addr data hr => ⟨?_, ?_⟩⟩
  · unfold State.waitLow
    cases (s.port p).state <;> simp [PortState.waiting]
  · simp [State.berrLow]
  · simp [exec, execHostAccessEnd, hr, hend]
  · simp [State.berrLow, State.setPort_port_same]
  · intro h held
    have hguard : (!s.rstn || (s.port p).state != .idle || !(we || oe)) = true := by
      rcases h with h | ⟨rfl, rfl⟩ <;> simp [*]
    simp only [exec, execHostAccessBegin, hguard, if_true]
  · intro hidle hstrobe
    have hguard : (!s.rstn || (s.port p).state != .idle || !(we || oe)) = false := by
      rcases hstrobe with rfl | rfl <;> simp [hr, hidle]
    cases hseen : Config.shortStrobeSeen s.now <;>
      simp only [exec, execHostAccessBegin, hguard, hseen, if_true, if_false, Bool.false_eq_true] <;> rfl

/-- Settles O19: the guard of the slot arbiter, its order, and the outcomes of one offer. -/
theorem slotArbiterServesInOrder : Obligations.SlotArbiterServesInOrder := by
  refine ⟨fun s hr hm hslot => ?_, fun s hr h => ?_, fun s p acc ha hw => ⟨fun r hrefused => ?_, ?_⟩⟩
  · have hexec : exec .slotArbiterServe s = .next s.servePending.endEvent := by
      simp [exec, execSlotArbiterServe, hr, hm, Queue.hasSlot, Config.queueCapacity, hslot]
    rw [hexec]
    refine ⟨fun wa wb hA hB ha hb => ?_, fun p q hpq hp hq => ?_, fun h => ?_⟩
    · rw [State.servePending_both hA hB ha hb]
    · rw [State.servePending_one hpq hp hq]
    · rw [State.servePending_none h]
  · have hguard : (s.rstn && s.control.mode == .running && s.queue.hasSlot) = false := by
      rcases h with h | h
      · simp [h]
      · simp [Queue.hasSlot, Config.queueCapacity, h]
    simp [exec, execSlotArbiterServe, hguard]
  · rw [State.offerWrite_refused ha hw hrefused]
    simp [State.refusal, hw]
  · intro c ans q hc hq
    refine ⟨?_, ?_⟩
    · rintro rfl; exact State.offerWrite_noSlot ha hc hq
    · rintro hans u rfl; exact State.offerWrite_taken ha hc hq hans

/-- Settles O32: the two ports are told one after the other, and each is told only in its own THROUGH wait. -/
theorem outcomeReachesWaiters : Obligations.OutcomeReachesWaiters := by
  refine ⟨fun r error data => rfl, fun s p => ?_, fun s p success hr hw hwrites hno => ?_, fun s w success => ⟨fun p => ?_, ?_⟩⟩
  · simp only [State.noWaiter, Bool.and_eq_true, List.all_eq_true, Bool.not_eq_true', and_assoc]
    exact and_congr_right fun _ => ⟨fun h b => Buf.rec h.1 h.2 b, fun h => ⟨h .pb0, h .pb1⟩⟩
  · have hreads : (s.port p).reads = false := by
      unfold PortRec.reads PortRec.writes at *
      cases hacc : (s.port p).access <;> simp_all
    have htold : s.throughOutcome p success = s.setPort p ((s.port p).completed (!success) none) := by
      cases success <;> simp [State.throughOutcome, hw, State.completeNormal, State.completeError, hreads]
    simp [exec, execThroughWaiterOutcome, hr, hno, htold]
  · exact State.tellWaiters_port s success w p
  · exact State.tellWaiters_ports_only s success w
end


section
/-! PROOF. The ends of a wait (O12) and what a change of mode does to the accesses that wait (O13). -/
namespace Sys2Proof.Machine

/-! ### Read service and the waiters (03 R55; 02 R33; 04 R87) -/

section
variable {r : ReadService} {p : Port} {f : Fetch}

theorem ReadService.stopWaiting_heldBack (h : r.heldBack = some f) (hp : f.port = p) :
    r.stopWaiting p = { r with heldBack := none } := by
  simp [ReadService.stopWaiting, h, hp]

theorem ReadService.stopWaiting_list (h : ∀ f, r.heldBack = some f → f.port ≠ p) :
    r.stopWaiting p = { r with fetches := (r.fetches.filter fun f => !(f.port == p && f.state == .waiting)).map fun f =>
      if f.port == p then { f with orphaned := true } else f } := by
  have hnone : (r.heldBack.any fun f => f.port == p) = false := by
    cases hb : r.heldBack with
    | none => rfl
    | some f => simpa using h f hb
  simp [ReadService.stopWaiting, hnone]

theorem ReadService.mem_stopWaiting (h : ∀ f, r.heldBack = some f → f.port ≠ p) :
    f ∈ (r.stopWaiting p).fetches ↔ ∃ g ∈ r.fetches, (g.port = p → g.state = .onLink)
      ∧ f = if g.port = p then { g with orphaned := true } else g := by
  rw [ReadService.stopWaiting_list h]
  simp only [List.mem_map, List.mem_filter]
  constructor
  · rintro ⟨g, ⟨hg, hkept⟩, rfl⟩
    refine ⟨g, hg, fun hp => ?_, by simp⟩
    cases hs : g.state with
    | waiting => simp [hp, hs] at hkept
    | onLink => rfl
  · rintro ⟨g, hg, hp, rfl⟩
    refine ⟨g, ⟨hg, ?_⟩, by simp⟩
    by_cases hport : g.port = p
    · simp [hport, hp hport]
    · simp [hport]

end

theorem PortSet.remove_eq (w : PortSet) (p : Port) : w.remove p = ⟨w.a && decide (p ≠ .A), w.b && decide (p ≠ .B)⟩ := by
  cases p <;> simp [PortSet.remove]

/-! ### The records of a wait's end -/

section
variable {s u : State} {p : Port} {acc : Access}

theorem State.completeError_eq (ha : (s.port p).access = some acc) :
    s.completeError p = s.setPort p { s.port p with
      state := .ending, waitStart := none, stallTimer := none, error := true,
      dataOut := if acc.write then none else some s.fill } := by
  unfold State.completeError
  rw [PortRec.reads_eq ha]
  cases acc.write <;> rfl

/-- The record of the wait as it stands, by what the port holds (01 R18). -/
theorem State.stallRecord_eq (ha : (s.port p).access = some acc) (withdrawn : Bool) :
    s.stallRecord p withdrawn
      = { kind := .stallExpired, source := portSource p, epoch := s.control.epoch, address := some (evenAddr24 acc.addr),
          seq := if (s.port p).state = .throughWait then (s.port p).seq else none,
          retained := if acc.write then some (Decidable.decide ((s.port p).state = .throughWait)) else none,
          detail := (s.port p).waitCode ||| cond withdrawn 0x80 0 } := by
  have hstate : ((s.port p).state == .throughWait) = Decidable.decide ((s.port p).state = .throughWait) := by
    cases (s.port p).state <;> rfl
  simp only [State.stallRecord, PortRec.address_eq ha, PortRec.writes_eq ha, hstate, decide_eq_true_eq]

/-- The four kinds of wait: the code of each and what the other blocks do at its end (01 R18). -/
theorem State.wait_cases {code : Byte} (ha : (s.port p).access = some acc)
    (h : (s.port p).state = .modeStall ∧ u = s ∧ code = (if acc.write then 1 else 0)
      ∨ (s.port p).state = .slotWait ∧ u = s ∧ code = 2
      ∨ (s.port p).state = .fetchWait ∧ u = s.setReads (s.reads.stopWaiting p) ∧ code = 3
      ∨ (s.port p).state = .throughWait ∧ u = s.dropWaiter p ∧ code = 4) :
    (s.port p).state.waiting = true ∧ s.leaveWait p = u ∧ (s.port p).waitCode = code := by
  have hw := PortRec.writes_eq ha
  rcases h with ⟨hs, rfl, rfl⟩ | ⟨hs, rfl, rfl⟩ | ⟨hs, rfl, rfl⟩ | ⟨hs, rfl, rfl⟩ <;>
    simp only [hs, PortState.waiting, State.leaveWait, PortRec.waitCode, hw, and_self]

theorem State.leaveWait_port (q : Port) : (s.leaveWait p).port q = s.port q := State.port_congr (by simp) q

end

end Sys2Proof.Machine

open Sys2Proof Sys2Proof.Machine

/-- Settles O12: the two ends of a wait differ in the port's state and in bit 7 of the record's detail. -/
theorem waitEndsByExpiryOrWithdrawal : Obligations.WaitEndsByExpiryOrWithdrawal := by
  refine ⟨fun r p => ⟨fun f hf hp => ReadService.stopWaiting_heldBack hf hp, fun h => ⟨?_, ?_, ?_, ?_⟩⟩, ?_, ?_⟩
  · rw [ReadService.stopWaiting_list h]
  · intro f hf hp
    exact (ReadService.mem_stopWaiting h).mpr ⟨f, hf, fun h => absurd h hp, by rw [if_neg hp]⟩
  · intro f hf hp hs
    exact (ReadService.mem_stopWaiting h).mpr ⟨f, hf, fun _ => hs, by rw [if_pos hp]⟩
  · intro f hf hp
    obtain ⟨g, hg, hs, rfl⟩ := (ReadService.mem_stopWaiting h).mp hf
    by_cases hport : g.port = p
    · simp [hport, hs hport]
    · simp [hport] at hp
  · rintro s u p rfl
    refine ⟨fun i e he => ?_, by simp [State.dropWaiter, Queue.dropWaiter], rfl, fun b => ?_, rfl, rfl⟩
    · simp [State.dropWaiter, Queue.dropWaiter, he, PortSet.remove_eq]
    · rw [← PortSet.remove_eq]; cases b <;> rfl
  · rintro s u p acc code hr ha hkind record rfl
    obtain ⟨hwaits, hleave, hcode⟩ := State.wait_cases ha hkind
    have hport : u.port p = s.port p := by rw [← hleave]; exact State.leaveWait_port p
    have hfill : u.fill = s.fill := by rw [← hleave]; exact State.fill_congr (by simp)
    have hcode0 : code ||| 0 = code := BitVec.or_zero
    refine ⟨fun ht => ?_, ?_⟩
    · have herr := State.completeError_eq (s := u) (p := p) (acc := acc) (by rw [hport]; exact ha)
      rw [hport, hfill] at herr
      simp only [exec, execStallTimerExpiry, hr, hwaits, ht, Bool.and_self, if_true, State.expireWait, hleave,
        State.stallRecord_eq ha, hcode, herr, cond_false, hcode0]
    · simp only [exec, execWithdrawal, hr, hwaits, Bool.and_self, if_true, State.withdrawWait, hleave,
        State.stallRecord_eq ha, hcode, cond_true]
end


section
/-! PROOF. What a change of mode does to the accesses that wait (01 R16; O13). -/
namespace Sys2Proof.Machine

section
variable {s : State} {p q : Port} {r : PortRec}

theorem Port.A_ne_B : Port.A ≠ .B := nofun
theorem Port.B_ne_A : Port.B ≠ .A := nofun

theorem PortRec.reads_iff : r.reads = true ↔ ∃ acc, r.access = some acc ∧ acc.write = false := by
  cases h : r.access <;> simp [PortRec.reads, h]

theorem PortRec.writes_iff : r.writes = true ↔ ∃ acc, r.access = some acc ∧ acc.write = true := by
  cases h : r.access <;> simp [PortRec.writes, h]

theorem PortRec.pendingWrite_iff : r.pendingWrite = true
    ↔ (r.state = .modeStall ∨ r.state = .slotWait) ∧ ∃ acc, r.access = some acc ∧ acc.write = true := by
  rw [← PortRec.writes_iff]
  simp [PortRec.pendingWrite]

theorem PortRec.stalledRead_iff : r.stalledRead = true ↔ r.state = .modeStall ∧ r.reads = true := by
  simp [PortRec.stalledRead]

/-- An access is a read or a write, not both. -/
theorem PortRec.reads_of_writes (h : r.writes = true) : r.reads = false := by
  obtain ⟨acc, ha, hw⟩ := PortRec.writes_iff.mp h
  rw [PortRec.reads_eq ha, hw]
  rfl

theorem PortRec.writes_of_pendingWrite (h : r.pendingWrite = true) : r.writes = true :=
  PortRec.writes_iff.mpr (PortRec.pendingWrite_iff.mp h).2

/-! ### The pending writes refused -/

theorem State.refusePending_eq : s.refusePending p
    = if (s.port p).pendingWrite then (s.setPort p ((s.port p).completed true none)).countPfRefused else s := by
  unfold State.refusePending State.completeError
  split
  · rename_i h
    rw [PortRec.reads_of_writes (PortRec.writes_of_pendingWrite h)]
    rfl
  · rfl

theorem State.writesRefused_eq (s : State) : s.writesRefused = (s.refusePending .A).refusePending .B := by
  have hport : (s.refusePending .A).port .B = s.port .B := by
    rw [State.refusePending_eq]
    exact State.port_ite rfl rfl
  rw [State.refusePending_eq (p := .B), hport, State.refusePending_eq, State.writesRefused]
  cases (s.port .A).pendingWrite <;> cases (s.port .B).pendingWrite
  · simp [bit, State.port]
  · rfl
  · rfl
  · simp only [if_true, State.countPfRefused, State.setCounters, State.setFaults, State.setPort, State.setPorts, bit,
      BitVec.add_assoc]
    rfl

/-! ### The accesses held for the mode ended -/

theorem State.failStalled_port_ne (h : q ≠ p) : (s.failStalled p).port q = s.port q :=
  State.port_ite (State.completeError_port_ne h) rfl

theorem State.failStalled_port : (s.failStalled p).port p = if (s.port p).pendingWrite || (s.port p).stalledRead
    then (s.port p).completed true (if (s.port p).reads then some s.fill else none) else s.port p := by
  unfold State.failStalled
  split
  · rw [State.completeError, State.setPort_port_same]
  · rfl

theorem State.failStalled_ports_only : { s.failStalled p with ports := s.ports } = s := by
  unfold State.failStalled
  split
  · cases p <;> rfl
  · rfl

/-- Both ports, each by itself. -/
theorem State.failStalled_both (s : State) (p : Port) : ((s.failStalled .A).failStalled .B).port p
    = if (s.port p).pendingWrite || (s.port p).stalledRead
      then (s.port p).completed true (if (s.port p).reads then some s.fill else none) else s.port p := by
  have hfill : (s.failStalled .A).fill = s.fill := State.fill_congr (by simp)
  cases p with
  | A => rw [State.failStalled_port_ne Port.A_ne_B, State.failStalled_port]
  | B => rw [State.failStalled_port, State.failStalled_port_ne Port.B_ne_A, hfill]

theorem State.failStalled_both_ports_only (s : State) :
    { (s.failStalled .A).failStalled .B with ports := s.ports } = s :=
  (congrArg (fun u : State => { u with ports := s.ports }) (s.failStalled .A).failStalled_ports_only).trans
    State.failStalled_ports_only

/-! ### The change of mode -/

theorem State.changeMode_eq (s : State) (new : Mode) :
    s.changeMode new = (s.setControl (s.changeMode new).control).portsOnMode s.control.mode new := by
  have hcontrol : (s.changeMode new).control = s.control.enter new := by simp [State.changeMode]
  rw [hcontrol]
  rfl

theorem State.portsOnMode_starting_running : s.portsOnMode .starting .running = s.readsHandedOn.writesOffered := by
  rw [State.writesOffered_eq, State.readsHandedOn_eq]
  rfl

theorem State.portsOnMode_starting_pfDone : s.portsOnMode .starting .pfDone = s.writesRefused.readsHandedOn := by
  rw [State.readsHandedOn_eq, State.writesRefused_eq]
  rfl

/-- The changes that do nothing to the ports. -/
theorem State.portsOnMode_other {old new : Mode}
    (h₁ : ¬ (old = .starting ∧ (new = .running ∨ new = .pfDone ∨ new = .failed)))
    (h₂ : ¬ (old = .applying ∧ new = .running)) (h₃ : ¬ ((old = .running ∨ old = .applying) ∧ new = .pfDrain)) :
    s.portsOnMode old new = s := by
  unfold State.portsOnMode
  split
  · exact absurd ⟨rfl, .inl rfl⟩ h₁
  · exact absurd ⟨rfl, .inr (.inr rfl)⟩ h₁
  · exact absurd ⟨rfl, .inr (.inl rfl)⟩ h₁
  · exact absurd ⟨rfl, rfl⟩ h₂
  · exact absurd ⟨.inl rfl, rfl⟩ h₃
  · exact absurd ⟨.inr rfl, rfl⟩ h₃
  · rfl

/-! ### A read that has been handed on no longer waits for the mode -/

theorem State.handRead_not_modeStall {acc : Access} (ha : (s.port p).access = some acc) :
    ((s.handRead p).port p).state ≠ .modeStall := by
  have hdone (out : Option (BitVec 16)) : (s.completeNormal p out).port p = (s.port p).completed false out :=
    State.setPort_port_same ..
  have herr : ∀ r, ((s.completeError p).addFault r).port p
      = (s.port p).completed true (if (s.port p).reads then some s.fill else none) := fun r => State.setPort_port_same ..
  unfold State.handRead
  simp only [ha]
  split
  · rw [State.refuseRead, herr]; nofun
  · simp only [State.acceptRead, ha]
    generalize (acc.lower && _ || acc.upper && _) = miss
    cases miss with
    | true => rw [if_pos rfl, State.setPort_port_same]; nofun
    | false => rw [if_neg nofun, hdone]; nofun

/-- After the reads have been handed on, only a port that holds no read stands in MODE_STALL. -/
theorem State.readsHandedOn_modeStall (s : State) (p : Port) :
    (s.readsHandedOn.port p).state = .modeStall ↔ (s.port p).state = .modeStall ∧ (s.port p).reads = false := by
  have hone (u : State) (p : Port) :
      ((u.releaseRead p).port p).state = .modeStall ↔ (u.port p).state = .modeStall ∧ (u.port p).reads = false := by
    unfold State.releaseRead
    split
    · rename_i h
      obtain ⟨hs, hr⟩ := PortRec.stalledRead_iff.mp h
      obtain ⟨acc, ha, -⟩ := PortRec.reads_iff.mp hr
      simp [State.handRead_not_modeStall ha, hr]
    · rename_i h
      rw [PortRec.stalledRead_iff] at h
      exact ⟨fun hs => ⟨hs, Bool.eq_false_iff.mpr fun hr => h ⟨hs, hr⟩⟩, And.left⟩
  have hother (u : State) {p q : Port} (h : q ≠ p) : (u.releaseRead p).port q = u.port q :=
    State.port_ite (State.handRead_port_ne h) rfl
  rw [State.readsHandedOn_eq]
  cases p with
  | A => rw [hother _ Port.A_ne_B, hone]
  | B => rw [hone, hother _ Port.B_ne_A]

theorem State.readsHandedOn_queue (s : State) : s.readsHandedOn.queue = s.queue := by
  rw [State.readsHandedOn_eq]
  simp

/-- In RUNNING a slot is free for the writes, or one of them stands in MODE_STALL. -/
def State.WritesWait (s : State) : Prop :=
  s.queue.hasSlot = true ∨ ∃ p, (s.port p).state = .modeStall ∧ (s.port p).reads = false

/-- The guard of PORT_MODE_CHANGE in RUNNING, which looks at what the reads have left. -/
theorem State.writesWait_iff (s : State) :
    (s.readsHandedOn.queue.hasSlot || (s.readsHandedOn.port .A).state == .modeStall
        || (s.readsHandedOn.port .B).state == .modeStall) = true ↔ s.WritesWait := by
  simp only [Bool.or_eq_true, beq_iff_eq, State.readsHandedOn_modeStall, State.readsHandedOn_queue, or_assoc]
  refine or_congr_right ⟨fun h => h.elim (⟨_, ·⟩) (⟨_, ·⟩), ?_⟩
  rintro ⟨p, h⟩
  cases p with
  | A => exact .inl h
  | B => exact .inr h

theorem State.actOnMode_serves (hm : s.control.mode = .running) (h : s.WritesWait) :
    s.actOnMode = s.readsHandedOn.writesOffered := by
  simp only [State.actOnMode, hm, ← State.readsHandedOn_eq, ← State.writesOffered_eq]
  exact if_pos (s.writesWait_iff.mpr h)

theorem State.actOnMode_rests (hm : s.control.mode = .running) (h : ¬ s.WritesWait) :
    s.actOnMode = s.readsHandedOn := by
  simp only [State.actOnMode, hm, ← State.readsHandedOn_eq]
  exact if_neg (mt s.writesWait_iff.mp h)

end

end Sys2Proof.Machine

open Sys2Proof Sys2Proof.Machine

/-- Settles O13: the table of `portsOnMode`, the same work as a command of its own, and the three ends of a read. -/
theorem modeChangeActsOnWaits : Obligations.ModeChangeActsOnWaits := by
  refine ⟨fun r => ⟨PortRec.pendingWrite_iff, ?_, PortRec.reads_iff, PortRec.writes_iff⟩, ?_, ?_, ?_⟩
  · rw [PortRec.stalledRead_iff, PortRec.reads_iff]
  · rintro s u new hu
    have hchange : s.changeMode new = u.portsOnMode s.control.mode new := by rw [hu]; exact State.changeMode_eq s new
    have hport (p : Port) : u.port p = s.port p := by rw [hu]; rfl
    have hfill : u.fill = s.fill := by rw [hu]; rfl
    refine ⟨fun hm => ⟨?_, ?_, ?_⟩, ?_, ?_, fun h₁ h₂ h₃ => ?_⟩
    · rintro rfl; rw [hchange, hm, State.portsOnMode_starting_running]
    · rintro rfl; rw [hchange, hm, State.portsOnMode_starting_pfDone]
    · rintro rfl
      rw [hchange, hm]
      refine ⟨?_, fun p => ?_⟩
      · have := State.failStalled_both_ports_only u
        rwa [show u.ports = s.ports by rw [hu]; rfl] at this
      · rw [← hport, ← hfill]; exact State.failStalled_both u p
    · rintro hm rfl; rw [hchange, hm, State.writesOffered_eq]; rfl
    · rintro hm rfl
      rw [hchange, State.writesRefused_eq]
      rcases hm with hm | hm <;> rw [hm] <;> rfl
    · rw [hchange, State.portsOnMode_other h₁ h₂ h₃]
  · intro s hr
    have hexec : exec .portModeChange s = .next s.actOnMode.endEvent := by simp [exec, execPortModeChange, hr]
    rw [hexec]
    refine ⟨fun hm => ⟨_, rfl, ?_, ?_, fun p => ?_⟩, fun hm => ?_, fun hm => ?_, fun hm => ⟨fun h => ?_, fun h24 h => ?_⟩,
      fun hm => ?_⟩
    · simp [State.actOnMode, hm]
    · simp [State.actOnMode, hm]
    · rw [State.port_congr (s := s.actOnMode) (by simp)]
      simpa only [State.actOnMode, hm] using State.failStalled_both s p
    · simp only [State.actOnMode, hm, State.writesRefused_eq]
    · simp only [State.actOnMode, hm, State.writesRefused_eq, State.readsHandedOn_eq]
    · rw [State.actOnMode_serves hm (h.imp_left fun h => by simpa [Queue.hasSlot, Config.queueCapacity] using h)]
    · rw [State.actOnMode_rests hm]
      rintro (hslot | ⟨p, hp, hread⟩)
      · simp [Queue.hasSlot, Config.queueCapacity, Nat.not_lt.mpr h24] at hslot
      · rw [h p hp] at hread; cases hread
    · rcases hm with hm | hm | hm <;> simp only [State.actOnMode, hm]
  · intro s p acc ha hw
    refine ⟨fun r hr => ?_, fun c lo up hc hlo hup => ⟨State.handRead_found ha hc hlo hup, fun hm f hf => ?_⟩⟩
    · rw [State.handRead_refused ha hw hr]
      simp [State.refusal, hw]
    · subst hf
      exact State.handRead_fetch ha hc hlo hup hm
end


section
/-! PROOF. The posting queue's answers, what an acceptance does to its entries and to what it shows, and the close of a window
(02 R27 to R38, R44; O14 to O18). -/
namespace Sys2Proof.Machine

section
variable {q : Queue} {o : WriteOffer} {e : Entry} {line window hwm a : Nat}

theorem Entry.isOpenOf_iff : e.isOpenOf line = true ↔ e.isOpen = true ∧ e.line = line := by simp [Entry.isOpenOf]

theorem Queue.hasOpen_iff : q.hasOpen line = true ↔ ∃ e ∈ q.entries, e.isOpen = true ∧ e.line = line := by
  simp [Queue.hasOpen, Entry.isOpenOf]

theorem Queue.youngestIsOpenOf_iff :
    q.youngestIsOpenOf line = true ↔ ∃ e, q.entries.getLast? = some e ∧ e.isOpen = true ∧ e.line = line := by
  unfold Queue.youngestIsOpenOf
  split
  · rename_i e he
    simp [Entry.isOpenOf, he]
  · rename_i he
    simp [he]

theorem Queue.hasSlot_iff : q.hasSlot = true ↔ q.entries.length < 24 := by simp [Queue.hasSlot, Config.queueCapacity]

/-! ### Lengths and numbers -/

@[simp] theorem Queue.closeAll_counter : q.closeAll.counter = q.counter := rfl
@[simp] theorem Queue.merge_counter : (q.merge o).counter = q.counter + 1 := rfl
@[simp] theorem Queue.place_counter : (q.place o window).counter = q.counter + 1 := rfl

@[simp] theorem Queue.hwmCheck_counter : (q.hwmCheck hwm).counter = q.counter := by
  unfold Queue.hwmCheck
  split <;> rfl

@[simp] theorem Queue.addWaiter_counter {p : Port} : (q.addWaiter line p).counter = q.counter := by
  unfold Queue.addWaiter
  split
  · split <;> rfl
  · rfl

@[simp] theorem Queue.closeAll_length : q.closeAll.entries.length = q.entries.length := by simp [Queue.closeAll]
@[simp] theorem Queue.closeLine_length : (q.closeLine line).entries.length = q.entries.length := by simp [Queue.closeLine]
@[simp] theorem Queue.merge_length : (q.merge o).entries.length = q.entries.length := by simp [Queue.merge]
@[simp] theorem Queue.place_length : (q.place o window).entries.length = q.entries.length + 1 := by simp [Queue.place]

theorem closeHead_length (es : List Entry) : (closeHead es).length = es.length := by cases es <;> rfl

@[simp] theorem Queue.hwmCheck_length : (q.hwmCheck hwm).entries.length = q.entries.length := by
  unfold Queue.hwmCheck
  split
  · exact closeHead_length _
  · rfl

theorem Queue.addWaiter_last {es : List Entry} {p : Port} (h : q.entries = es ++ [e]) (hl : e.line = line) :
    (q.addWaiter line p).entries = es ++ [{ e with waiters := e.waiters.insert p }] := by
  simp [Queue.addWaiter, h, hl]

@[simp] theorem Queue.addWaiter_length {p : Port} : (q.addWaiter line p).entries.length = q.entries.length := by
  rcases List.eq_nil_or_concat q.entries with h | ⟨es, e, h⟩
  · simp [Queue.addWaiter, h]
  · rw [List.concat_eq_append] at h
    by_cases hl : e.line = line
    · simp [Queue.addWaiter_last h hl, h]
    · simp [Queue.addWaiter, h, hl]

/-! ### The answer to an offer, by class (02 R30 to R32) -/

/-- The entry that an offer may merge into: the line's OPEN entry wherever it stands, or for the ordered classes only as the
youngest entry. -/
def Queue.mergesInto (q : Queue) (o : WriteOffer) : Bool :=
  match o.cls with
  | .posted => q.hasOpen o.line
  | .ordered | .through => q.youngestIsOpenOf o.line
  | .readOnly => false

/-- What an allocation leaves older than its entry: a POSTED one changes nothing, the others close the line's OPEN entry. -/
def Queue.before (q : Queue) (o : WriteOffer) : Queue :=
  match o.cls with
  | .posted | .readOnly => q
  | .ordered | .through => q.closeLine o.line

/-- What a THROUGH acceptance adds: every entry closes and the port waits (02 R32). -/
def Queue.seal (q : Queue) (o : WriteOffer) : Queue :=
  match o.cls with
  | .through => q.closeAll.addWaiter o.line o.port
  | .posted | .ordered | .readOnly => q

/-- One shape for the three classes that are offered. -/
theorem Queue.offer_eq (hc : o.cls ≠ .readOnly) : q.offer o window hwm
    = if q.mergesInto o then (.merged, (q.merge o).seal o)
      else if q.hasSlot then (.allocated, (((q.before o).place o window).seal o).hwmCheck hwm)
      else (.noSlot, q) := by
  unfold Queue.offer Queue.mergesInto Queue.before Queue.seal
  cases h : o.cls with
  | posted => rfl
  | ordered => rfl
  | through => rfl
  | readOnly => exact absurd h hc

theorem Queue.offer_readOnly (hc : o.cls = .readOnly) : q.offer o window hwm = (.noSlot, q) := by
  simp [Queue.offer, hc]

theorem Queue.offer_merged (hc : o.cls ≠ .readOnly) (h : q.mergesInto o = true) :
    q.offer o window hwm = (.merged, (q.merge o).seal o) := by
  rw [Queue.offer_eq hc, if_pos h]

theorem Queue.offer_noMerge (hc : o.cls ≠ .readOnly) (h : q.mergesInto o = false) :
    (q.offer o window hwm).1 = if q.entries.length < 24 then .allocated else .noSlot := by
  rw [Queue.offer_eq hc, if_neg (by simp [h])]
  by_cases hs : q.entries.length < 24
  · rw [if_pos (Queue.hasSlot_iff.mpr hs), if_pos hs]
  · rw [if_neg (mt Queue.hasSlot_iff.mp hs), if_neg hs]

/-- The three outcomes of an offer, each with the queue it leaves. -/
theorem Queue.offer_cases : (q.offer o window hwm) = (.noSlot, q)
    ∨ o.cls ≠ .readOnly ∧ q.mergesInto o = true ∧ q.offer o window hwm = (.merged, (q.merge o).seal o)
    ∨ o.cls ≠ .readOnly ∧ q.mergesInto o = false
      ∧ q.offer o window hwm = (.allocated, (((q.before o).place o window).seal o).hwmCheck hwm) := by
  by_cases hc : o.cls = .readOnly
  · exact .inl (Queue.offer_readOnly hc)
  · cases hm : q.mergesInto o with
    | true => exact .inr (.inl ⟨hc, rfl, Queue.offer_merged hc hm⟩)
    | false =>
      rw [Queue.offer_eq hc, hm, if_neg nofun]
      cases q.hasSlot with
      | true => exact .inr (.inr ⟨hc, rfl, rfl⟩)
      | false => exact .inl rfl

theorem Queue.before_cases (q : Queue) (o : WriteOffer) : q.before o = q ∨ q.before o = q.closeLine o.line := by
  unfold Queue.before
  cases o.cls with
  | posted | readOnly => exact .inl rfl
  | ordered | through => exact .inr rfl

theorem Queue.seal_cases (q : Queue) (o : WriteOffer) : q.seal o = q ∨ q.seal o = q.closeAll.addWaiter o.line o.port := by
  unfold Queue.seal
  cases o.cls with
  | posted | ordered | readOnly => exact .inl rfl
  | through => exact .inr rfl

@[simp] theorem Queue.before_counter : (q.before o).counter = q.counter := by
  rcases q.before_cases o with h | h <;> rw [h]
  rfl

@[simp] theorem Queue.before_length : (q.before o).entries.length = q.entries.length := by
  rcases q.before_cases o with h | h <;> simp [h]

@[simp] theorem Queue.seal_counter : (q.seal o).counter = q.counter := by
  rcases q.seal_cases o with h | h <;> simp [h]

@[simp] theorem Queue.seal_length : (q.seal o).entries.length = q.entries.length := by
  rcases q.seal_cases o with h | h <;> simp [h]

/-! ### What the queue shows of a byte (02 R44) -/

/-- The value of a byte in the youngest of the entries that shows it. -/
def entriesShow (es : List Entry) (a : Nat) : Option Byte := es.reverse.findSome? fun e => e.shows a

theorem Queue.lookup_entries (q : Queue) (a : Nat) : q.lookup a = entriesShow q.entries a := rfl

theorem entriesShow_append (es fs : List Entry) (a : Nat) :
    entriesShow (es ++ fs) a = (entriesShow fs a).or (entriesShow es a) := by
  simp [entriesShow, List.findSome?_append]

theorem entriesShow_cons (e : Entry) (es : List Entry) (a : Nat) :
    entriesShow (e :: es) a = (entriesShow es a).or (e.shows a) := by
  rw [← List.singleton_append, entriesShow_append]
  simp [entriesShow]

theorem entriesShow_none {es : List Entry} (h : ∀ e ∈ es, e.shows a = none) : entriesShow es a = none := by
  rw [entriesShow, List.findSome?_eq_none_iff]
  simpa using h

/-- Entry by entry the same line and the same bytes show the same. -/
theorem entriesShow_congr {es fs : List Entry}
    (h : es.map (fun e => (e.line, e.bytes)) = fs.map (fun e => (e.line, e.bytes))) (a : Nat) :
    entriesShow es a = entriesShow fs a := by
  induction es generalizing fs with
  | nil => rw [List.map_nil, eq_comm, List.map_eq_nil_iff] at h; rw [h]
  | cons e es ih =>
    cases fs with
    | nil => cases h
    | cons f fs =>
      simp only [List.map_cons, List.cons.injEq, Prod.mk.injEq] at h
      obtain ⟨⟨hline, hbytes⟩, hrest⟩ := h
      rw [entriesShow_cons, entriesShow_cons, ih hrest, Entry.shows, Entry.shows, hline, hbytes]

theorem entriesShow_map {f : Entry → Entry} (h : ∀ e, (f e).line = e.line ∧ (f e).bytes = e.bytes) (es : List Entry)
    (a : Nat) : entriesShow (es.map f) a = entriesShow es a :=
  entriesShow_congr (by simp [h]) a

theorem Queue.lookup_closeAll : q.closeAll.lookup a = q.lookup a :=
  entriesShow_map (f := Entry.close) (fun _ => ⟨rfl, rfl⟩) _ _

theorem Queue.lookup_closeLine : (q.closeLine line).lookup a = q.lookup a :=
  entriesShow_map (fun e => by split <;> exact ⟨rfl, rfl⟩) _ _

theorem Queue.lookup_hwmCheck : (q.hwmCheck hwm).lookup a = q.lookup a := by
  unfold Queue.hwmCheck
  split
  · refine entriesShow_congr ?_ a
    cases q.entries <;> rfl
  · rfl

theorem Queue.lookup_addWaiter {p : Port} : (q.addWaiter line p).lookup a = q.lookup a := by
  rcases List.eq_nil_or_concat q.entries with h | ⟨es, e, h⟩
  · simp [Queue.addWaiter, h]
  · rw [List.concat_eq_append] at h
    by_cases hl : e.line = line
    · rw [Queue.lookup_entries, Queue.lookup_entries, Queue.addWaiter_last h hl, h]
      exact entriesShow_congr (by simp) a
    · simp [Queue.addWaiter, h, hl]

theorem Queue.lookup_before : (q.before o).lookup a = q.lookup a := by
  rcases q.before_cases o with h | h <;> rw [h]
  exact Queue.lookup_closeLine

theorem Queue.lookup_seal : (q.seal o).lookup a = q.lookup a := by
  rcases q.seal_cases o with h | h <;> rw [h]
  rw [Queue.lookup_addWaiter, Queue.lookup_closeAll]

/-- What an offer carries of a byte. -/
def WriteOffer.shows (o : WriteOffer) (a : Nat) : Option Byte :=
  if o.line = lineOf a then cellsGet o.bytes (a % Config.lineBytes) else none

theorem Queue.lookup_place (ho : cellsWf o.bytes = true) :
    (q.place o window).lookup a = (o.shows a).or (q.lookup a) := by
  have hnew (seq : Seq) : (newEntry o seq window).shows a = o.shows a := by
    simp [newEntry, Entry.shows, WriteOffer.shows, cellsGet_lay _ _ _ ho, cellsGet]
  rw [Queue.lookup_entries, Queue.place, entriesShow_append, entriesShow_cons, hnew]
  rfl

theorem Entry.shows_merge (ho : cellsWf o.bytes = true) (hl : e.line = o.line) (seq : Seq) :
    (e.merge o seq).shows a = (o.shows a).or (e.shows a) := by
  have hline : (e.merge o seq).line = e.line := by unfold Entry.merge; dsimp only; split <;> rfl
  rw [Entry.shows, Entry.shows, WriteOffer.shows, hline, Entry.merge_bytes, hl]
  split
  · exact cellsGet_lay _ _ _ ho
  · rfl

/-- The line's OPEN entry is the only one, and no younger entry carries the line (02 R23). -/
theorem Queue.Lawful.open_split (h : q.Lawful) (ho : q.hasOpen line = true) : ∃ older e younger,
    q.entries = older ++ e :: younger ∧ e.isOpenOf line = true ∧ (∀ f ∈ older, f.isOpenOf line = false)
      ∧ ∀ f ∈ younger, f.line ≠ line := by
  obtain ⟨e, he, hopen, rfl⟩ := Queue.hasOpen_iff.mp ho
  obtain ⟨older, younger, hq⟩ := List.append_of_mem he
  have hpair := h.closedBehind
  rw [hq, List.pairwise_append, List.pairwise_cons] at hpair
  obtain ⟨-, ⟨hyounger, -⟩, holder⟩ := hpair
  refine ⟨older, e, younger, hq, Entry.isOpenOf_iff.mpr ⟨hopen, rfl⟩, fun f hf => ?_, fun f hf hline => ?_⟩
  · refine Bool.eq_false_iff.mpr fun hfo => ?_
    obtain ⟨hfopen, hfline⟩ := Entry.isOpenOf_iff.mp hfo
    rw [holder f hf e (List.mem_cons_self ..) hfline] at hfopen
    cases hfopen
  · rw [hyounger f hf hline.symm] at hopen
    cases hopen

theorem Queue.Lawful.lookup_merge (h : q.Lawful) (hopen : q.hasOpen o.line = true) (ho : cellsWf o.bytes = true) :
    (q.merge o).lookup a = (o.shows a).or (q.lookup a) := by
  obtain ⟨older, e, younger, hq, he, holder, hyounger⟩ := h.open_split hopen
  have hkeep {es : List Entry} (hes : ∀ f ∈ es, f.isOpenOf o.line = false) :
      es.map (fun e => if e.isOpenOf o.line then e.merge o (q.counter + 1) else e) = es :=
    (List.map_congr_left fun f hf => by rw [hes f hf]; rfl).trans (List.map_id _)
  have hyoungerOpen : ∀ f ∈ younger, f.isOpenOf o.line = false := fun f hf =>
    Bool.eq_false_iff.mpr fun hfo => hyounger f hf (Entry.isOpenOf_iff.mp hfo).2
  have hshow := Entry.shows_merge (a := a) ho (Entry.isOpenOf_iff.mp he).2 (q.counter + 1)
  have hafter : (q.merge o).entries = older ++ e.merge o (q.counter + 1) :: younger := by
    simp only [Queue.merge, hq, List.map_append, List.map_cons, hkeep holder, hkeep hyoungerOpen, he, if_true]
  rw [Queue.lookup_entries, Queue.lookup_entries, hafter, hq]
  simp only [entriesShow_append, entriesShow_cons, hshow]
  by_cases hline : o.line = lineOf a
  · have hnone : entriesShow younger a = none := entriesShow_none fun f hf => by
      rw [Entry.shows, if_neg (by rw [← hline]; exact hyounger f hf)]
    rw [hnone, Option.none_or, Option.none_or, Option.or_assoc]
  · have hnone : o.shows a = none := by rw [WriteOffer.shows, if_neg hline]
    rw [hnone, Option.none_or, Option.none_or]

theorem Queue.hasOpen_of_mergesInto (h : q.mergesInto o = true) : q.hasOpen o.line = true := by
  unfold Queue.mergesInto at h
  have hyoungest (hy : q.youngestIsOpenOf o.line = true) : q.hasOpen o.line = true := by
    obtain ⟨e, he, hopen⟩ := Queue.youngestIsOpenOf_iff.mp hy
    exact Queue.hasOpen_iff.mpr ⟨e, List.mem_of_getLast? he, hopen⟩
  split at h
  · exact h
  · exact hyoungest h
  · exact hyoungest h
  · cases h

/-- An accepted write is seen before everything older. -/
theorem Queue.Lawful.lookup_offer (h : q.Lawful) (ho : cellsWf o.bytes = true)
    (hans : (q.offer o window hwm).1 ≠ .noSlot) :
    (q.offer o window hwm).2.lookup a = (o.shows a).or (q.lookup a) := by
  rcases Queue.offer_cases (q := q) (o := o) (window := window) (hwm := hwm) with hno | ⟨-, hm, hoff⟩ | ⟨-, -, hoff⟩
  · rw [hno] at hans; exact absurd rfl hans
  · rw [hoff]
    exact Queue.lookup_seal.trans (h.lookup_merge (Queue.hasOpen_of_mergesInto hm) ho)
  · rw [hoff, Queue.lookup_hwmCheck, Queue.lookup_seal, Queue.lookup_place ho, Queue.lookup_before]

/-! ### A queue without an OPEN entry (02 R32, R38) -/

/-- Every entry is CLOSED and has no window timer. -/
def Queue.AllClosed (q : Queue) : Prop := ∀ e ∈ q.entries, e.isOpen = false ∧ e.timer = none

theorem Entry.close_of_closed (h : e.isOpen = false ∧ e.timer = none) : e.close = e := by
  obtain ⟨hopen, htimer⟩ := h
  cases e
  cases hopen
  cases htimer
  rfl

theorem Queue.AllClosed.hwmCheck (h : q.AllClosed) (hwm : Nat) : q.hwmCheck hwm = q := by
  have hhead : closeHead q.entries = q.entries := by
    cases hq : q.entries with
    | nil => rfl
    | cons e es => rw [closeHead, Entry.close_of_closed (h e (by simp [hq]))]
  unfold Queue.hwmCheck
  rw [hhead]
  split <;> rfl

/-- The seal of a THROUGH acceptance on a queue whose youngest entry carries the write. -/
theorem Queue.seal_through {es : List Entry} (hc : o.cls = .through) (hq : q.entries = es ++ [e]) (hl : e.line = o.line) :
    (q.seal o).entries = es.map Entry.close ++ [{ e.close with waiters := e.waiters.insert o.port }] := by
  have hclosed : q.closeAll.entries = es.map Entry.close ++ [e.close] := by simp [Queue.closeAll, hq]
  simp only [Queue.seal, hc]
  exact Queue.addWaiter_last hclosed hl

theorem Queue.seal_allClosed {es : List Entry} (hc : o.cls = .through) (hq : q.entries = es ++ [e]) (hl : e.line = o.line) :
    (q.seal o).AllClosed := by
  intro f hf
  rw [Queue.seal_through hc hq hl, List.mem_append, List.mem_map, List.mem_singleton] at hf
  rcases hf with ⟨g, -, rfl⟩ | rfl
  · exact ⟨rfl, rfl⟩
  · exact ⟨rfl, rfl⟩

theorem PortSet.has_insert (w : PortSet) (p : Port) : (w.insert p).has p = true := by cases p <;> rfl

theorem Entry.merge_fields (e : Entry) (o : WriteOffer) (seq : Seq) :
    (e.merge o seq).line = e.line ∧ (e.merge o seq).lastSeq = seq ∧ (e.merge o seq).writers = e.writers.insert o.port := by
  unfold Entry.merge
  dsimp only
  split <;> exact ⟨rfl, rfl, rfl⟩

/-- A merge into an OPEN entry, which closes once it holds the whole line (02 R28, R34). -/
theorem Entry.merge_eq (h : e.isOpen = true) (seq : Seq) :
    e.merge o seq = { e with
      bytes := cellsLay e.bytes o.bytes, lastSeq := seq, writers := e.writers.insert o.port,
      isOpen := decide ((cellsLay e.bytes o.bytes).length < 32),
      timer := if (cellsLay e.bytes o.bytes).length < 32 then e.timer else none } := by
  by_cases hfull : (cellsLay e.bytes o.bytes).length < 32
  · simp [Entry.merge, Config.lineBytes, Nat.not_le.mpr hfull, hfull, h]
  · simp [Entry.merge, Config.lineBytes, Nat.le_of_not_lt hfull, hfull, Entry.close]

theorem Queue.closeLine_entries : (q.closeLine line).entries
    = q.entries.map (fun e => if e.isOpen = true ∧ e.line = line then { e with isOpen := false, timer := none } else e) :=
  List.map_congr_left fun _ _ => if_iff_congr Entry.isOpenOf_iff rfl rfl

theorem Queue.hwmCheck_entries : (q.hwmCheck hwm).entries = if hwm ≤ q.entries.length then closeHead q.entries else q.entries := by
  unfold Queue.hwmCheck
  split <;> rfl

end

/-! ### The bytes of a host write (01 R2, 02 R27) -/

section
variable (acc : Access) (p : Port) (c : AccessClass)

theorem Access.offer_wf : cellsWf (acc.offer p c).bytes = true := by
  unfold Access.offer
  cases acc.lower <;> cases acc.upper <;> simp [cellsWf]

theorem Access.offer_shows (a : Nat) : (acc.offer p c).shows a
    = if acc.lower = true ∧ a = evenAddr acc.addr then some (acc.data.extractLsb' 0 8)
      else if acc.upper = true ∧ a = evenAddr acc.addr + 1 then some (acc.data.extractLsb' 8 8) else none := by
  have heven : evenAddr acc.addr = 2 * acc.addr.toNat := rfl
  have hlo : lineOf (evenAddr acc.addr) = lineOf a ∧ evenAddr acc.addr % 32 = a % 32 ↔ a = evenAddr acc.addr := by
    simp only [lineOf, Config.lineBytes]; omega
  have hup : lineOf (evenAddr acc.addr) = lineOf a ∧ evenAddr acc.addr % 32 + 1 = a % 32 ↔ a = evenAddr acc.addr + 1 := by
    simp only [lineOf, Config.lineBytes]; omega
  by_cases hline : lineOf (evenAddr acc.addr) = lineOf a
  · simp only [← hlo, ← hup]
    cases hl : acc.lower <;> cases hu : acc.upper <;>
      simp [WriteOffer.shows, Access.offer, hl, hu, hline, cellsGet, Config.lineBytes]
  · simp only [← hlo, ← hup]
    simp [WriteOffer.shows, Access.offer, hline]

end

end Sys2Proof.Machine

open Sys2Proof Sys2Proof.Machine

/-- Settles O14: the class says which entry may take the write, and `Queue.offer_cases` what the queue is afterwards. -/
theorem acceptanceAnswers : Obligations.AcceptanceAnswers := by
  intro q o window hwm
  have hyoungest (hc : o.cls = .ordered ∨ o.cls = .through) : q.mergesInto o = q.youngestIsOpenOf o.line := by
    rcases hc with hc | hc <;> simp only [Queue.mergesInto, hc]
  have hoffered (hc : o.cls = .ordered ∨ o.cls = .through) : o.cls ≠ .readOnly := by
    rcases hc with hc | hc <;> rw [hc] <;> nofun
  refine ⟨fun hc => ⟨fun h => ?_, fun h => ?_⟩, fun hc => ⟨fun e he hopen hl => ?_, fun h => ?_⟩, ?_, ?_⟩
  · rw [Queue.offer_merged (by rw [hc]; nofun) (by simpa only [Queue.mergesInto, hc] using Queue.hasOpen_iff.mpr h)]
  · refine Queue.offer_noMerge (by rw [hc]; nofun) ?_
    simp only [Queue.mergesInto, hc]
    refine Bool.eq_false_iff.mpr fun ho => ?_
    obtain ⟨e, he, hopen, hl⟩ := Queue.hasOpen_iff.mp ho
    rw [h e he hl] at hopen
    cases hopen
  · rw [Queue.offer_merged (hoffered hc)
      (by rw [hyoungest hc]; exact Queue.youngestIsOpenOf_iff.mpr ⟨e, he, hopen, hl⟩)]
  · refine Queue.offer_noMerge (hoffered hc) ?_
    rw [hyoungest hc]
    refine Bool.eq_false_iff.mpr fun ho => ?_
    obtain ⟨e, he, hopen, hl⟩ := Queue.youngestIsOpenOf_iff.mp ho
    rw [h e he hl] at hopen
    cases hopen
  · intro hno
    rcases Queue.offer_cases (q := q) (o := o) (window := window) (hwm := hwm) with h | ⟨-, -, h⟩ | ⟨-, -, h⟩
    · rw [h]
    · rw [h] at hno; cases hno
    · rw [h] at hno; cases hno
  · intro hans
    rcases Queue.offer_cases (q := q) (o := o) (window := window) (hwm := hwm) with h | ⟨-, -, h⟩ | ⟨-, -, h⟩
    · rw [h] at hans; exact absurd rfl hans
    · rw [h]; simp
    · rw [h]; simp

/-- Settles O15: neither class seals, so the merge and the allocation stand as `Queue.offer_cases` gives them. -/
theorem acceptedWriteEntry : Obligations.AcceptedWriteEntry := by
  intro q o window hwm hc
  have hseal (q : Queue) : q.seal o = q := by rcases hc with hc | hc <;> simp only [Queue.seal, hc]
  have hbefore : (q.before o).entries = if o.cls = .ordered
      then q.entries.map (fun e => if e.isOpen = true ∧ e.line = o.line then { e with isOpen := false, timer := none } else e)
      else q.entries := by
    rcases hc with hc | hc
    · simp only [Queue.before, hc]; rfl
    · simp only [Queue.before, hc, Queue.closeLine_entries, if_true]
  rcases Queue.offer_cases (q := q) (o := o) (window := window) (hwm := hwm) with h | ⟨-, -, h⟩ | ⟨-, -, h⟩
  · rw [h]; exact ⟨nofun, nofun⟩
  · rw [h]
    refine ⟨fun _ i e bytes he hbytes => ?_, nofun⟩
    subst hbytes
    rw [hseal]
    simp only [Queue.merge, List.getElem?_map, he, Option.map_some]
    by_cases hopen : e.isOpenOf o.line = true
    · rw [if_pos hopen, if_pos (Entry.isOpenOf_iff.mp hopen), Entry.merge_eq (Entry.isOpenOf_iff.mp hopen).1]
    · rw [if_neg hopen, if_neg (mt Entry.isOpenOf_iff.mpr hopen)]
  · rw [h]
    refine ⟨nofun, fun _ old new hold hnew => ?_⟩
    have hplaced : ((q.before o).place o window).entries = new := by
      rw [hnew, hold, ← hbefore]
      simp only [Queue.place, Queue.before_counter, newEntry]
    rw [hseal, Queue.hwmCheck_entries, hplaced]
    cases new <;> rfl

/-- Settles O16: after the seal every entry is CLOSED, so that the high-watermark check has nothing to close. -/
theorem throughAcceptanceClosesAll : Obligations.ThroughAcceptanceClosesAll := by
  intro q o window hwm hc hans
  rcases Queue.offer_cases (q := q) (o := o) (window := window) (hwm := hwm) with h | ⟨-, hm, h⟩ | ⟨-, -, h⟩
  · rw [h] at hans; exact absurd rfl hans
  · rw [h]
    simp only [Queue.mergesInto, hc] at hm
    obtain ⟨e, he, hopen⟩ := Queue.youngestIsOpenOf_iff.mp hm
    obtain ⟨es, hq⟩ := List.getLast?_eq_some_iff.mp he
    obtain ⟨hline, hseq, hwriters⟩ := Entry.merge_fields e o (q.counter + 1)
    have hmerged : ∃ fs, (q.merge o).entries = fs ++ [e.merge o (q.counter + 1)] := by
      simp only [Queue.merge, hq, List.map_append, List.map_cons, List.map_nil, Entry.isOpenOf_iff.mpr hopen, if_true]
      exact ⟨_, rfl⟩
    obtain ⟨fs, hfs⟩ := hmerged
    refine ⟨Queue.seal_allClosed hc hfs (hline.trans hopen.2),
      { (e.merge o (q.counter + 1)).close with waiters := (e.merge o (q.counter + 1)).waiters.insert o.port },
      ?_, ?_, ?_, ?_, ?_, nofun⟩
    · rw [Queue.seal_through hc hfs (hline.trans hopen.2), List.getLast?_concat]
    · exact hline.trans hopen.2
    · exact hseq
    · exact PortSet.has_insert ..
    · exact (congrArg (·.has o.port) hwriters).trans (PortSet.has_insert ..)
  · have hplaced : ((q.before o).place o window).entries
        = (q.before o).entries ++ [newEntry o (q.counter + 1) window] := by simp [Queue.place]
    have hclosed := Queue.seal_allClosed hc hplaced rfl
    rw [h]
    simp only [hclosed.hwmCheck]
    refine ⟨hclosed,
      { (newEntry o (q.counter + 1) window).close with
        waiters := (newEntry o (q.counter + 1) window).waiters.insert o.port },
      ?_, ?_, ?_, ?_, ?_, fun _ => ⟨?_, ?_, ?_⟩⟩
    · rw [Queue.seal_through hc hplaced rfl, List.getLast?_concat]
    · rfl
    · rfl
    · exact PortSet.has_insert ..
    · exact PortSet.has_insert ..
    · exact hc
    · rfl
    · rfl

/-- Settles O17: what an accepted offer carries is seen first, and it carries the two enabled bytes of the access. -/
theorem acceptedWriteIsSeen : Obligations.AcceptedWriteIsSeen := by
  refine ⟨fun acc p c => ⟨rfl, rfl, rfl⟩, fun q acc p c window hwm hq hans a => ?_⟩
  rw [hq.lookup_offer (Access.offer_wf acc p c) hans, Access.offer_shows]
  split
  · rfl
  · split <;> rfl

/-- Settles O18: the close of the line's OPEN entry, entry by entry. -/
theorem windowExpiryClosesEntry : Obligations.WindowExpiryClosesEntry := by
  intro s line hr
  refine ⟨s.queue.closeLine line.toNat, ?_, rfl, Queue.closeLine_length, fun i e he => ?_⟩
  · simp [exec, execWindowTimerExpiry, hr]
  · rw [Queue.closeLine_entries, List.getElem?_map, he]
    rfl
end


section
/-! PROOF. The take (04 R69 to R71; 02 R43; O20), which changes nothing that a read finds (O21). -/
namespace Sys2Proof.Machine

/-! ### The run (02 R43) -/

/-- An entry that a run of the page goes on with. -/
def Entry.continues (page : Nat) (e : Entry) : Bool := !e.isOpen && pageOfLine e.line == page

theorem runOf_eq (page : Nat) (es : List Entry) : runOf page es = es.takeWhile (Entry.continues page) := by
  induction es with
  | nil => rfl
  | cons e es ih =>
    rw [runOf, List.takeWhile_cons, ih]
    rfl

section
variable {q : Queue} {h e : Entry} {rest : List Entry}

theorem Queue.run_eq (hq : q.entries.head? = some h) : q.run = q.entries.takeWhile (Entry.continues (pageOfLine h.line)) := by
  obtain ⟨rest, hq⟩ := List.head?_eq_some_iff.mp hq
  simp only [Queue.run, hq, runOf_eq]

theorem Queue.run_nil (hq : q.entries = []) : q.run = [] := by simp [Queue.run, hq]

theorem Queue.removeRun_eq (hq : q.entries.head? = some h) :
    q.removeRun.entries = q.entries.dropWhile (Entry.continues (pageOfLine h.line)) := by
  have hsplit := List.takeWhile_append_dropWhile (p := Entry.continues (pageOfLine h.line)) (l := q.entries)
  rw [← Queue.run_eq hq] at hsplit
  have hdrop : (q.run ++ q.entries.dropWhile (Entry.continues (pageOfLine h.line))).drop q.run.length
      = q.entries.dropWhile (Entry.continues (pageOfLine h.line)) := List.drop_left
  rwa [hsplit] at hdrop

theorem Queue.run_append_removeRun (q : Queue) : q.entries = q.run ++ q.removeRun.entries := by
  cases hq : q.entries.head? with
  | none =>
    have hnil := List.head?_eq_none_iff.mp hq
    simp [Queue.removeRun, Queue.run_nil hnil, hnil]
  | some h => rw [Queue.run_eq hq, Queue.removeRun_eq hq, List.takeWhile_append_dropWhile]

theorem Queue.run_continues (hq : q.entries.head? = some h) (he : e ∈ q.run) :
    e.isOpen = false ∧ pageOfLine e.line = pageOfLine h.line := by
  rw [Queue.run_eq hq] at he
  simpa [Entry.continues] using List.all_eq_true.mp List.all_takeWhile e he

theorem Queue.run_head (hq : q.entries.head? = some h) (hclosed : h.isOpen = false) : q.run.head? = some h := by
  obtain ⟨rest, hrest⟩ := List.head?_eq_some_iff.mp hq
  rw [Queue.run_eq hq, hrest, List.takeWhile_cons]
  simp [Entry.continues, hclosed]

theorem Queue.removeRun_head (hq : q.entries.head? = some h) (he : q.removeRun.entries.head? = some e) :
    e.isOpen = true ∨ pageOfLine e.line ≠ pageOfLine h.line := by
  have hstop := List.head?_dropWhile_not (Entry.continues (pageOfLine h.line)) q.entries
  rw [← Queue.removeRun_eq hq, he] at hstop
  cases ho : e.isOpen with
  | true => exact .inl rfl
  | false => exact .inr (by simpa [Entry.continues, ho] using hstop)

end

/-! ### The latest and the earliest of some numbers (02 R25) -/

/-- A fold that keeps the number of the smaller key ends in one of the numbers, whose key is the smallest. -/
theorem foldl_smallest {α : Type} (key : α → Int) (l : List α) (y : α) :
    (l.foldl (fun acc x => if key x < key acc then x else acc) y) ∈ y :: l
      ∧ ∀ x ∈ y :: l, key (l.foldl (fun acc x => if key x < key acc then x else acc) y) ≤ key x := by
  induction l generalizing y with
  | nil => simp
  | cons z l ih =>
    obtain ⟨hmem, hle⟩ := ih (if key z < key y then z else y)
    have hstep : key (if key z < key y then z else y) ≤ key y ∧ key (if key z < key y then z else y) ≤ key z := by
      split <;> constructor <;> omega
    refine ⟨?_, fun x hx => ?_⟩
    · rcases List.mem_cons.mp hmem with h | h
      · rw [List.foldl_cons, h]
        split <;> simp
      · exact List.mem_cons_of_mem _ (List.mem_cons_of_mem _ h)
    · have hfirst := hle _ (List.mem_cons_self ..)
      rcases List.mem_cons.mp hx with rfl | hx
      · exact Int.le_trans hfirst hstep.1
      · rcases List.mem_cons.mp hx with rfl | hx
        · exact Int.le_trans hfirst hstep.2
        · exact hle x (List.mem_cons_of_mem _ hx)

section
variable (counter y : Seq) (l : List Seq)

theorem seqLatest_spec : seqLatest counter y l ∈ y :: l
    ∧ ∀ x ∈ y :: l, (counter - seqLatest counter y l).toNat ≤ (counter - x).toNat := by
  have hfold := foldl_smallest (fun x : Seq => ((counter - x).toNat : Int)) l y
  have heq : seqLatest counter y l = l.foldl (fun acc x =>
      if ((counter - x).toNat : Int) < ((counter - acc).toNat : Int) then x else acc) y := by
    unfold seqLatest
    congr 1
    funext acc x
    exact if_iff_congr (by rw [seqEarlier, decide_eq_true_eq]; exact Int.ofNat_lt.symm) rfl rfl
  rw [heq]
  exact ⟨hfold.1, fun x hx => Int.ofNat_le.mp (hfold.2 x hx)⟩

theorem seqEarliest_spec : seqEarliest counter y l ∈ y :: l
    ∧ ∀ x ∈ y :: l, (counter - x).toNat ≤ (counter - seqEarliest counter y l).toNat := by
  have hfold := foldl_smallest (fun x : Seq => -((counter - x).toNat : Int)) l y
  have heq : seqEarliest counter y l = l.foldl (fun acc x =>
      if -((counter - x).toNat : Int) < -((counter - acc).toNat : Int) then x else acc) y := by
    unfold seqEarliest
    congr 1
    funext acc x
    exact if_iff_congr (by rw [seqEarlier, decide_eq_true_eq, Int.neg_lt_neg_iff]; exact Int.ofNat_lt.symm) rfl rfl
  rw [heq]
  exact ⟨hfold.1, fun x hx => by have := hfold.2 x hx; omega⟩

end

/-! ### The buffer of a run (04 R71) -/

theorem PortSet.has_union (v w : PortSet) (p : Port) : (v.union w).has p = (v.has p || w.has p) := by cases p <;> rfl

theorem PortSet.has_unionAll (run : List Entry) (w : PortSet) (p : Port) :
    (run.foldl (fun acc x => acc.union x.waiters) w).has p = true ↔ w.has p = true ∨ ∃ e ∈ run, e.waiters.has p = true := by
  induction run generalizing w with
  | nil => simp
  | cons e run ih => rw [List.foldl_cons, ih, PortSet.has_union, Bool.or_eq_true]; simp [or_assoc]

section
variable {run : List Entry} {h : Entry} {counter : Seq} {stamp : Nat}

/-- Every field of the buffer but its bytes. -/
theorem bufferOfRun_fields (hrun : run.head? = some h) :
    (bufferOfRun run counter stamp).state = .filled ∧ (bufferOfRun run counter stamp).page = pageOfLine h.line
      ∧ (bufferOfRun run counter stamp).attempts = 0 ∧ (bufferOfRun run counter stamp).failure = none
      ∧ (bufferOfRun run counter stamp).firstSeq = h.firstSeq ∧ stamp < (bufferOfRun run counter stamp).stamp
      ∧ (bufferOfRun run counter stamp).retried = false
      ∧ (∀ p, (bufferOfRun run counter stamp).waiters.has p = true ↔ ∃ e ∈ run, e.waiters.has p = true)
      ∧ (∃ e ∈ run, (bufferOfRun run counter stamp).lastSeq = e.lastSeq)
      ∧ ∀ e ∈ run, (counter - (bufferOfRun run counter stamp).lastSeq).toNat ≤ (counter - e.lastSeq).toNat := by
  obtain ⟨rest, rfl⟩ := List.head?_eq_some_iff.mp hrun
  obtain ⟨hmem, hle⟩ := seqLatest_spec counter h.lastSeq (rest.map (·.lastSeq))
  rw [← List.map_cons (f := Entry.lastSeq)] at hmem hle
  have hwaiters (p : Port) := PortSet.has_unionAll (h :: rest) {} p
  refine ⟨rfl, rfl, rfl, rfl, rfl, Nat.lt_succ_self _, rfl, fun p => ?_, ?_, fun e he => hle _ (List.mem_map_of_mem he)⟩
  · exact (hwaiters p).trans (or_iff_right (by cases p <;> nofun))
  · obtain ⟨e, he, heq⟩ := List.mem_map.mp hmem
    exact ⟨e, he, heq.symm⟩

theorem bufferOfRun_bytes (hrun : run.head? = some h) :
    (bufferOfRun run counter stamp).bytes = run.foldl (fun acc x => cellsLay acc x.pageCells) [] := by
  obtain ⟨rest, rfl⟩ := List.head?_eq_some_iff.mp hrun
  rfl

end

/-! ### The bytes of the run, at their page offsets -/

theorem Entry.cellsGet_pageCells (e : Entry) (hb : ∀ x ∈ e.bytes, x.1 < 32) (k : Nat) :
    cellsGet e.pageCells k = if k / 32 = e.line % 8 then cellsGet e.bytes (k % 32) else none := by
  unfold Entry.pageCells
  generalize e.bytes = cells at hb
  induction cells with
  | nil => simp [cellsGet]
  | cons c cells ih =>
    have hc : c.1 < 32 := hb c (List.mem_cons_self ..)
    have hplace : e.line % 8 * 32 + c.1 = k ↔ k / 32 = e.line % 8 ∧ c.1 = k % 32 := by omega
    simp only [List.map_cons, cellsGet, ih fun x hx => hb x (List.mem_cons_of_mem _ hx), Config.lineBytes, hplace]
    by_cases hl : k / 32 = e.line % 8 <;> by_cases ho : c.1 = k % 32 <;> simp [hl, ho]

theorem Entry.pageCells_wf (e : Entry) (hb : cellsWf e.bytes = true) : cellsWf e.pageCells = true := by
  rw [cellsWf_iff] at hb ⊢
  rw [Entry.pageCells, List.pairwise_map]
  exact hb.imp fun h => Nat.add_lt_add_left h _

/-- What an entry of the page shows of a byte of the page. -/
theorem Entry.pageCells_shows (e : Entry) (hb : CellsBelow e.bytes Config.lineBytes) {a : Nat}
    (hp : pageOfLine e.line = pageOf a) : cellsGet e.pageCells (a % 256) = e.shows a := by
  have hline : a % 256 / 32 = e.line % 8 ↔ e.line = lineOf a := by
    simp only [pageOfLine, pageOf, lineOf, Config.pageBytes, Config.lineBytes] at hp ⊢
    omega
  rw [e.cellsGet_pageCells hb.2, Entry.shows]
  exact if_iff_congr hline (by rw [Nat.mod_mod_of_dvd a (by decide)]) rfl

/-- Laid in order, the youngest entry's byte stands. -/
theorem cellsGet_layRun (run : List Entry) (hw : ∀ e ∈ run, cellsWf e.pageCells = true) (c : List Host.Cell) (k : Nat) :
    cellsGet (run.foldl (fun acc x => cellsLay acc x.pageCells) c) k
      = (run.reverse.findSome? fun e => cellsGet e.pageCells k).or (cellsGet c k) := by
  induction run generalizing c with
  | nil => rfl
  | cons e run ih =>
    rw [List.foldl_cons, ih (fun x hx => hw x (List.mem_cons_of_mem _ hx)),
      cellsGet_lay _ _ _ (hw e (List.mem_cons_self ..)), ← Option.or_assoc]
    simp [List.findSome?_append]

theorem entriesShow_of_forall {run : List Entry} {f : Entry → Option Byte} {a : Nat} (h : ∀ e ∈ run, f e = e.shows a) :
    run.reverse.findSome? f = entriesShow run a := by
  have hlist (l : List Entry) (hl : ∀ e ∈ l, f e = e.shows a) : l.findSome? f = l.findSome? fun e => e.shows a := by
    induction l with
    | nil => rfl
    | cons e l ih =>
      rw [List.findSome?_cons, List.findSome?_cons, hl e (List.mem_cons_self ..),
        ih fun x hx => hl x (List.mem_cons_of_mem _ hx)]
  exact hlist _ fun e he => h e (List.mem_reverse.mp he)

/-- The buffer of a run shows what the run's entries showed (04 R71). -/
theorem bufferOfRun_lookup {run : List Entry} {h : Entry} {counter : Seq} {stamp : Nat} (hrun : run.head? = some h)
    (hb : ∀ e ∈ run, CellsBelow e.bytes Config.lineBytes) (hp : ∀ e ∈ run, pageOfLine e.line = pageOfLine h.line) (a : Nat) :
    (bufferOfRun run counter stamp).lookup a = entriesShow run a := by
  obtain ⟨hstate, hpage, -⟩ := bufferOfRun_fields (counter := counter) (stamp := stamp) hrun
  rw [PageBuffer.lookup_eq, hstate, hpage, bufferOfRun_bytes hrun,
    cellsGet_layRun run fun e he => e.pageCells_wf (hb e he).1]
  by_cases ha : pageOfLine h.line = a / 256
  · have hshow : (run.reverse.findSome? fun e => cellsGet e.pageCells (a % 256)) = entriesShow run a :=
      entriesShow_of_forall fun e he => e.pageCells_shows (hb e he) ((hp e he).trans ha)
    rw [if_pos ⟨nofun, ha⟩, hshow]
    exact Option.or_none
  · rw [if_neg fun h => ha h.2]
    refine (entriesShow_none fun e he => if_neg fun hl => ha ?_).symm
    rw [← hp e he, hl, pageOfLine_lineOf]
    rfl

/-! ### The conditions of a take (04 R69, R70) -/

theorem State.drainRuns_iff (s : State) : s.drainRuns = true ↔ s.DrainAllowed := by
  unfold State.drainRuns State.DrainAllowed
  cases s.control.mode <;> simp [Config.drainBudget]

theorem State.halted_iff (s : State) : s.halted = true ↔ ∀ b, (s.buf b).state = .held := by
  simp only [State.halted, Drain.halted, Bool.and_eq_true, beq_iff_eq]
  exact ⟨fun h => Buf.rec h.1 h.2, fun h => ⟨h .pb0, h .pb1⟩⟩

theorem State.canTake_iff (s : State) : s.canTake = true ↔ s.DrainAllowed ∧ s.halted = false
    ∧ (∃ b, (s.buf b).state = .free) ∧ ∃ h, s.queue.entries.head? = some h ∧ h.isOpen = false := by
  have hfree : (s.drain.pb0.state == .free || s.drain.pb1.state == .free) = true ↔ ∃ b, (s.buf b).state = .free := by
    simp only [Bool.or_eq_true, beq_iff_eq]
    refine ⟨fun h => h.elim (⟨.pb0, ·⟩) (⟨.pb1, ·⟩), fun ⟨b, hb⟩ => ?_⟩
    cases b with
    | pb0 => exact .inl hb
    | pb1 => exact .inr hb
  have hhead : s.queue.headClosed = true ↔ ∃ h, s.queue.entries.head? = some h ∧ h.isOpen = false := by
    unfold Queue.headClosed
    cases s.queue.entries <;> simp
  rw [State.canTake, Bool.and_eq_true, Bool.and_eq_true, Bool.and_eq_true, State.drainRuns_iff, hfree, hhead]
  simp [and_assoc]

theorem State.takeInto_eq {s : State} {b : Buf} (hfree : (s.buf b).state = .free)
    (h : b = s.drain.next ∨ (s.buf s.drain.next).state ≠ .free) : s.drain.takeInto = b := by
  unfold Drain.takeInto
  rcases h with rfl | h
  · exact if_pos (by simpa [State.buf] using hfree)
  · rw [if_neg (by simpa [State.buf] using h)]
    have hne : b ≠ s.drain.next := by rintro rfl; exact h hfree
    cases b <;> cases hn : s.drain.next <;> simp_all [Buf.other]

end Sys2Proof.Machine

open Sys2Proof Sys2Proof.Machine

/-- Settles O20: the run stands at the head of the queue (`Queue.run_eq`), and its buffer is `bufferOfRun`. -/
theorem takeFillsBuffer : Obligations.TakeFillsBuffer := by
  refine ⟨fun q hwm => ⟨fun h => ?_, fun h => ?_, fun e rest h hle => ?_⟩, State.halted_iff, fun q => ?_, fun s hr => ⟨?_, ?_⟩⟩
  · simp [Queue.hwmCheck, Nat.not_le.mpr h]
  · cases q
    cases h
    exact ite_self _
  · rw [Queue.hwmCheck, if_pos hle, h]
    rfl
  · refine ⟨q.run_append_removeRun, rfl, fun e he => ?_, fun h hq => ⟨Queue.run_head hq, fun e => Queue.removeRun_head hq⟩⟩
    cases hq : q.entries.head? with
    | none => rw [Queue.run_nil (List.head?_eq_none_iff.mp hq)] at he; cases he
    | some h =>
      obtain ⟨hclosed, hpage⟩ := Queue.run_continues hq he
      exact ⟨hclosed, fun h' hh' => Option.some.inj hh' ▸ hpage⟩
  · intro h rest b x u hallowed hq hclosed hfree hnext hx hu
    subst hx
    have hhead : s.queue.entries.head? = some h := by rw [hq]; rfl
    have hhalted : s.halted = false := Bool.eq_false_iff.mpr fun hh => by
      rw [(State.halted_iff s).mp hh b] at hfree; cases hfree
    have hcan : s.canTake = true := (State.canTake_iff s).mpr ⟨hallowed, hhalted, ⟨b, hfree⟩, h, hhead, hclosed⟩
    refine ⟨?_, bufferOfRun_fields (Queue.run_head hhead hclosed)⟩
    have htake : s.takeRun = if s.control.mode = .running then u.servePending else u := by
      simp only [State.takeRun, State.takeInto_eq hfree hnext, hu, beq_iff_eq]
      rfl
    simp only [exec, execTakeRun, hr, hcan, Bool.and_self, if_true, htake, State.writesOffered_eq]
  · intro h
    have hcan : s.canTake = false := Bool.eq_false_iff.mpr fun hcan => by
      obtain ⟨hallowed, hhalted, ⟨b, hfree⟩, e, hhead, hclosed⟩ := (State.canTake_iff s).mp hcan
      rcases h with h | h | h | h
      · exact h hallowed
      · rw [hhalted] at h; cases h
      · exact h b hfree
      · rw [h e hhead] at hclosed; cases hclosed
    simp [exec, execTakeRun, hcan]

/-- Settles O21: the run leaves the old end of the queue and stands in the younger buffer, before the other one. -/
theorem takeKeepsEveryLookup : Obligations.TakeKeepsEveryLookup := by
  intro s b x u hbytes hfree hx hu hrun a
  obtain ⟨h, hhead⟩ : ∃ h, s.queue.entries.head? = some h := Option.ne_none_iff_exists'.mp fun hn =>
    hrun (Queue.run_nil (List.head?_eq_none_iff.mp hn))
  obtain ⟨g, hg⟩ : ∃ g, s.queue.run.head? = some g := Option.ne_none_iff_exists'.mp fun hn =>
    hrun (List.head?_eq_none_iff.mp hn)
  have hpages : ∀ e ∈ s.queue.run, pageOfLine e.line = pageOfLine g.line := fun e he =>
    (Queue.run_continues hhead he).2.trans (Queue.run_continues hhead (List.mem_of_mem_head? hg)).2.symm
  have hxlook : x.lookup a = entriesShow s.queue.run a := by
    rw [hx]
    exact bufferOfRun_lookup hg (fun e he => hbytes.entries e (Queue.mem_of_mem_run he)) hpages a
  have hub : u.buf b = x := by rw [hu]; cases b <;> rfl
  have hubo : u.buf b.other = s.buf b.other := by rw [hu]; cases b <;> rfl
  have hyounger : (u.buf b.other).stamp < (u.buf b).stamp := by
    obtain ⟨-, -, -, -, -, hstamp, -⟩ :=
      bufferOfRun_fields (counter := s.queue.counter) (stamp := (s.buf b.other).stamp) hg
    rw [hub, hubo, hx]
    exact hstamp
  have huq : u.queue.lookup a = entriesShow s.queue.removeRun.entries a := by
    rw [hu]
    exact Queue.lookup_hwmCheck
  have hsq : s.queue.lookup a = (entriesShow s.queue.removeRun.entries a).or (entriesShow s.queue.run a) := by
    rw [Queue.lookup_entries, ← entriesShow_append, ← Queue.run_append_removeRun]
  rw [State.lookup, State.lookup, huq, hsq, State.drain_lookup u a b (.inl hyounger),
    State.drain_lookup s a b (.inr (.inl hfree)), hub, hubo, hxlook, PageBuffer.lookup_free hfree, Option.none_or,
    Option.or_assoc]
end


section
/-! PROOF. The steps of the work that ends an event, and its frame (log 11, log 12; O4); the fetches that leave and enter (03
R53 to R55; O22). -/
namespace Sys2Proof.Machine

section
variable {s t : State}

theorem State.heldBackEnters_iff : s.HeldBackEnters t ↔ t = s.enterHeldBack := by
  have enters (f : Fetch) (hf : s.reads.heldBack = some f) (hg : ∀ g ∈ s.reads.fetches, g.port ≠ f.port) :
      s.enterHeldBack = s.setReads ⟨s.reads.fetches ++ [f], none⟩ := by
    have hany : (s.reads.fetches.any fun g => g.port == f.port) = false := by simpa using hg
    simp [State.enterHeldBack, ReadService.enterHeldBack, hf, hany]
  have stays (h : ∀ f, s.reads.heldBack = some f → ∃ g ∈ s.reads.fetches, g.port = f.port) : s.enterHeldBack = s := by
    unfold State.enterHeldBack ReadService.enterHeldBack
    split
    · rfl
    · rename_i f hf
      rw [if_pos (by simpa using h f hf)]
      rfl
  constructor
  · rintro (⟨f, hf, hg⟩ | h)
    · exact (enters f hf hg).symm
    · exact (stays h).symm
  · rintro rfl
    by_cases h : ∃ f, s.reads.heldBack = some f ∧ ∀ g ∈ s.reads.fetches, g.port ≠ f.port
    · obtain ⟨f, hf, hg⟩ := h
      rw [enters f hf hg]
      exact .enters f hf hg
    · have hbehind (f : Fetch) (hf : s.reads.heldBack = some f) : ∃ g ∈ s.reads.fetches, g.port = f.port :=
        Classical.byContradiction fun hno => h ⟨f, hf, fun g hg hp => hno ⟨g, hg, hp⟩⟩
      rw [stays hbehind]
      exact .stays hbehind

theorem State.pinWaitEnds_iff : s.PinWaitEnds t ↔ t = s.endPinWait := by
  constructor
  · rintro (⟨page, hpin, hpage, hfree⟩ | h)
    · simp [State.endPinWait, hpin, hpage, hfree]
    · unfold State.endPinWait
      split
      · rfl
      · rename_i page hpage
        rw [if_neg]
        simpa using fun hp => h hp page hpage
  · rintro rfl
    unfold State.endPinWait
    split
    · rename_i hnone
      exact .stays fun _ page hp => absurd (hnone.symm.trans hp) nofun
    · rename_i page hpage
      split
      · rename_i hguard
        simp only [Bool.and_eq_true, Bool.not_eq_true'] at hguard
        exact .ends page hguard.1 hpage hguard.2
      · rename_i hguard
        refine .stays fun hp page' hp' => ?_
        obtain rfl := Option.some.inj (hpage.symm.trans hp')
        simpa [hp] using hguard

theorem State.flushJudged_iff : s.FlushJudged t ↔ t = s.judgeFlush := by
  have hslot (h : s.maint.slot = .flush) : (s.maint.slot != .flush) = false := by simp [h]
  constructor
  · rintro (h | ⟨h, hr⟩ | ⟨h, hr, hb⟩ | ⟨h, hr, hb⟩)
    · simp [State.judgeFlush, h]
    · simp only [State.judgeFlush, hslot h, hr]; rfl
    · simp only [State.judgeFlush, hslot h, hr, hb]; rfl
    · simp only [State.judgeFlush, hslot h, hr, hb]; rfl
  · rintro rfl
    by_cases h : s.maint.slot = .flush
    · cases hr : s.flushRemains with
      | false =>
        have := State.FlushJudged.done h hr
        simp only [State.judgeFlush, hslot h, hr]
        exact this
      | true =>
        cases hb : s.flushBlocked with
        | true =>
          have := State.FlushJudged.blocked h hr hb
          simp only [State.judgeFlush, hslot h, hr, hb]
          exact this
        | false =>
          have := State.FlushJudged.goesOn h hr hb
          simp only [State.judgeFlush, hslot h, hr, hb]
          exact this
    · rw [show s.judgeFlush = s by simp [State.judgeFlush, h]]
      exact .noFlush h

theorem BufState.idle_iff (b : BufState) : (!(b == .filled || b.inProgram)) = true ↔ b = .free ∨ b = .held := by
  cases b <;> decide

/-- The condition of the PF_DRAIN marker write, as the control block computes it (08 R166). -/
theorem State.markerDue_iff (s : State) : (s.drainFinished || s.control.budget == 1) = true ↔ s.MarkerDue := by
  have hidle (b : PageBuffer) : (!(b.state == .filled || b.state.inProgram)) = true ↔ b.state = .free ∨ b.state = .held :=
    BufState.idle_iff b.state
  have hnone : (!(s.drain.pb0.state == .free || s.drain.pb1.state == .free)) = true ↔ ∀ b, (s.buf b).state ≠ .free := by
    simp only [Bool.not_eq_true', Bool.or_eq_false_iff, beq_eq_false_iff_ne]
    exact ⟨fun h => Buf.rec h.1 h.2, fun h => ⟨h .pb0, h .pb1⟩⟩
  have hbufs : (∀ b, (s.buf b).state = .free ∨ (s.buf b).state = .held)
      ↔ (s.drain.pb0.state = .free ∨ s.drain.pb0.state = .held) ∧ (s.drain.pb1.state = .free ∨ s.drain.pb1.state = .held) :=
    ⟨fun h => ⟨h .pb0, h .pb1⟩, fun h => Buf.rec h.1 h.2⟩
  unfold State.drainFinished State.MarkerDue
  dsimp only
  rw [Bool.or_eq_true, Bool.and_eq_true, Bool.and_eq_true, Bool.or_eq_true, Bool.or_eq_true, hidle, hidle, hnone,
    State.halted_iff, hbufs, List.isEmpty_iff, beq_iff_eq, or_comm, or_assoc]

theorem State.requestMarker_eq (hm : s.control.mode = .pfDrain) (request : Option CtrlReq)
    (h : request = some .markerWrite ∧ s.MarkerDue ∧ s.link.holder ≠ some .markerWrite
      ∨ request = none ∧ (¬ s.MarkerDue ∨ s.link.holder = some .markerWrite)) :
    s.requestMarker = s.setControl { s.control with request := request } := by
  have hguard := s.markerDue_iff
  unfold State.requestMarker
  rw [if_pos (by simpa using hm)]
  rcases h with ⟨rfl, hdue, hh⟩ | ⟨rfl, hdue | hh⟩
  · rw [if_pos (by rw [Bool.and_eq_true, hguard]; exact ⟨hdue, by simpa using hh⟩)]
  · rw [if_neg (by rw [Bool.and_eq_true, hguard]; exact fun h => hdue h.1)]
  · rw [if_neg (by simp [hh])]

theorem State.requestMarker_elsewhere (hm : s.control.mode ≠ .pfDrain) : s.requestMarker = s := by
  simp [State.requestMarker, hm]

theorem State.markerFollows_iff : s.MarkerFollows t ↔ t = s.requestMarker := by
  constructor
  · rintro (hm | ⟨hm, hdue, hh⟩ | ⟨hm, h⟩)
    · exact (State.requestMarker_elsewhere hm).symm
    · exact (State.requestMarker_eq hm _ (.inl ⟨rfl, hdue, hh⟩)).symm
    · exact (State.requestMarker_eq hm _ (.inr ⟨rfl, h⟩)).symm
  · rintro rfl
    by_cases hm : s.control.mode = .pfDrain
    · by_cases hdue : s.MarkerDue ∧ s.link.holder ≠ some .markerWrite
      · rw [State.requestMarker_eq hm _ (.inl ⟨rfl, hdue⟩)]
        exact .due hm hdue.1 hdue.2
      · have hnot : ¬ s.MarkerDue ∨ s.link.holder = some .markerWrite := by
          by_cases hd : s.MarkerDue
          · exact .inr (Classical.byContradiction fun hh => hdue ⟨hd, hh⟩)
          · exact .inl hd
        rw [State.requestMarker_eq hm _ (.inr ⟨rfl, hnot⟩)]
        exact .notDue hm hnot
    · rw [State.requestMarker_elsewhere hm]
      exact .elsewhere hm

end

/-! ### Fetches -/

section
variable {s : State} {f : Fetch}

/-- A list with one fetch of its port. -/
theorem find?_fetch {fetches : List Fetch} {st : FetchState} (hf : f ∈ fetches) (hs : f.state = st)
    (hone : ∀ g ∈ fetches, g.port = f.port → g = f) :
    fetches.find? (fun g => g.port == f.port && g.state == st) = some f := by
  cases h : fetches.find? (fun g => g.port == f.port && g.state == st) with
  | none => simpa [hs] using List.find?_eq_none.mp h f hf
  | some g =>
    have hg := List.find?_some h
    simp only [Bool.and_eq_true, beq_iff_eq] at hg
    rw [hone g (List.mem_of_find?_eq_some h) hg.1]

/-- Without its fetch of the port the list holds the others. -/
theorem filter_fetch {fetches : List Fetch} {st : FetchState} (hs : f.state = st)
    (hone : ∀ g ∈ fetches, g.port = f.port → g = f) :
    (fetches.filter fun g => !(g.port == f.port && g.state == st)) = fetches.filter fun g => decide (g ≠ f) := by
  refine List.filter_congr fun g hg => ?_
  by_cases hgf : g = f
  · simp [hgf, hs]
  · have hport : g.port ≠ f.port := fun h => hgf (hone g hg h)
    simp [hgf, hport]

end

end Sys2Proof.Machine

open Sys2Proof Sys2Proof.Machine

/-- Settles O4: each step of the work is the function that `State.endEvent` composes, and what these leave as it is. -/
theorem endOfEventFrame : Obligations.EndOfEventFrame := by
  refine ⟨fun s a b c d hr ha hb hc hd => ?_, fun s => ⟨⟨_, State.heldBackEnters_iff.mpr rfl⟩,
    ⟨_, State.pinWaitEnds_iff.mpr rfl⟩, ⟨_, State.flushJudged_iff.mpr rfl⟩, ⟨_, State.markerFollows_iff.mpr rfl⟩⟩, fun s => ?_⟩
  · obtain rfl := State.heldBackEnters_iff.mp ha
    obtain rfl := State.pinWaitEnds_iff.mp hb
    obtain rfl := State.flushJudged_iff.mp hc
    obtain rfl := State.markerFollows_iff.mp hd
    simp [exec, execArbiterDecision, State.endEvent, hr]
  · obtain ⟨hnext, hbufs⟩ := s.endEvent_drain
    refine ⟨by simp, by simp, by simp, by simp, by simp, by simp, by simp, by simp, by simp, s.now_endEvent, s.endEvent_mode,
      s.endEvent_epoch, s.endEvent_budget, s.endEvent_report, s.endEvent_filtered, s.endEvent_flushMark, ?_,
      s.endEvent_frameErrors, hnext, hbufs, fun op => State.endEvent_held⟩
    exact s.endEvent_response

/-- Settles O22: the fetch that holds the link is the only one of its port, and the step into the list is that of the end of
an event. -/
theorem fetchesLeaveAndEnter : Obligations.FetchesLeaveAndEnter := by
  refine ⟨fun s hr => ?_, fun s u f addr len lower upper hr hh hw hf hs hone hu => ?_⟩
  · have hexec : exec .heldBackFetchEntry s = .next s.enterHeldBack.endEvent := by
      simp [exec, execHeldBackFetchEntry, hr]
    rw [hexec]
    refine ⟨fun f hf hg => ?_, fun h => ?_⟩
    · rw [← State.heldBackEnters_iff.mp (.enters f hf hg)]
    · rw [← State.heldBackEnters_iff.mp (.stays h)]
  · subst hu
    have hfind := find?_fetch hf hs hone
    have hfilter := filter_fetch (fetches := s.reads.fetches) hs hone
    simp only [exec, execFetchCompletion, hr, hh, hw, State.fetchDone, State.releaseLink, State.setLink_reads, hfind, hfilter]
    cases f.orphaned <;> cases f.port <;> rfl
end


section
/-! PROOF. The requests, the choice and the grants of the link arbiter (05 R101 to R108; O23, O24). -/
namespace Sys2Proof.Machine

section
variable {s : State} {k : ReqKind} {op : LinkOp} {b : Buf} {f g : Fetch}

/-! ### The fetch request (05 R106) -/

/-- The order of acceptance, port A's fetch first of two accepted together. -/
def Fetch.rank (f : Fetch) : Nat := 2 * f.order + if f.port = .A then 0 else 1

theorem Fetch.rank_A (h : f.port = .A) : f.rank = 2 * f.order := congrArg (2 * f.order + ·) (if_pos h)

theorem Fetch.rank_B (h : f.port ≠ .A) : f.rank = 2 * f.order + 1 := congrArg (2 * f.order + ·) (if_neg h)

theorem Fetch.rank_bounds (f : Fetch) : 2 * f.order ≤ f.rank ∧ f.rank ≤ 2 * f.order + 1 := by
  by_cases h : f.port = .A
  · rw [Fetch.rank_A h]; omega
  · rw [Fetch.rank_B h]; omega

theorem Fetch.rank_le_of_before (h : f.before g = true) : f.rank ≤ g.rank := by
  simp only [Fetch.before, Bool.or_eq_true, Bool.and_eq_true, decide_eq_true_eq, beq_iff_eq] at h
  have hf := f.rank_bounds
  have hg := g.rank_bounds
  rcases h with h | ⟨h, hp⟩
  · omega
  · rw [Fetch.rank_A hp]; omega

theorem Fetch.rank_le_of_not_before (h : ¬ f.before g = true) : g.rank ≤ f.rank := by
  simp only [Fetch.before, Bool.or_eq_true, Bool.and_eq_true, decide_eq_true_eq, beq_iff_eq, not_or, not_and] at h
  obtain ⟨hlt, hp⟩ := h
  have hf := f.rank_bounds
  have hg := g.rank_bounds
  by_cases he : f.order = g.order
  · rw [Fetch.rank_B (hp he)]; omega
  · omega

theorem Fetch.before_or_of_rank (h : f.rank ≤ g.rank) :
    f.order < g.order ∨ (f.order = g.order ∧ (f.port = .A ∨ g.port = f.port)) := by
  have hlow := f.rank_bounds
  have hhigh := g.rank_bounds
  by_cases hlt : f.order < g.order
  · exact .inl hlt
  refine .inr ⟨by omega, ?_⟩
  by_cases hf : f.port = .A
  · exact .inl hf
  by_cases hg : g.port = .A
  · rw [Fetch.rank_B hf, Fetch.rank_A hg] at h; omega
  · exact .inr ((Port.eq_B_of_ne_A hg).trans (Port.eq_B_of_ne_A hf).symm)

/-- The fold of `State.fetchRequest`. -/
def firstFetch (acc : Option Fetch) (l : List Fetch) : Option Fetch :=
  l.foldl (fun acc f => match acc with
    | none => some f
    | some g => if f.before g then some f else some g) acc

theorem firstFetch_some (l : List Fetch) (g : Fetch) :
    ∃ f, firstFetch (some g) l = some f ∧ f ∈ g :: l ∧ ∀ x ∈ g :: l, f.rank ≤ x.rank := by
  induction l generalizing g with
  | nil => exact ⟨g, rfl, by simp, by simp⟩
  | cons y l ih =>
    by_cases hb : y.before g = true
    · obtain ⟨f, hf, hmem, hle⟩ := ih y
      refine ⟨f, ?_, List.mem_cons_of_mem _ hmem, fun x hx => ?_⟩
      · change firstFetch (if y.before g then some y else some g) l = some f
        rw [if_pos hb, hf]
      · rcases List.mem_cons.mp hx with rfl | hx
        · exact Nat.le_trans (hle y (List.mem_cons_self ..)) (Fetch.rank_le_of_before hb)
        · exact hle x hx
    · obtain ⟨f, hf, hmem, hle⟩ := ih g
      refine ⟨f, ?_, ?_, fun x hx => ?_⟩
      · change firstFetch (if y.before g then some y else some g) l = some f
        rw [if_neg hb, hf]
      · rcases List.mem_cons.mp hmem with rfl | h
        · exact List.mem_cons_self ..
        · exact List.mem_cons_of_mem _ (List.mem_cons_of_mem _ h)
      · rcases List.mem_cons.mp hx with rfl | hx
        · exact hle x (List.mem_cons_self ..)
        · rcases List.mem_cons.mp hx with rfl | hx
          · exact Nat.le_trans (hle g (List.mem_cons_self ..)) (Fetch.rank_le_of_not_before hb)
          · exact hle x (List.mem_cons_of_mem _ hx)

theorem State.fetchRequest_eq (s : State) :
    s.fetchRequest = firstFetch none (s.reads.fetches.filter fun f => f.state == .waiting) := rfl

theorem State.fetchRequest_none : s.fetchRequest = none ↔ ∀ f ∈ s.reads.fetches, f.state ≠ .waiting := by
  rw [State.fetchRequest_eq]
  cases hl : s.reads.fetches.filter fun f => f.state == .waiting with
  | nil => simpa [firstFetch] using List.filter_eq_nil_iff.mp hl
  | cons y l =>
    obtain ⟨f, hf, -⟩ := firstFetch_some l y
    have hy : y ∈ s.reads.fetches.filter fun f => f.state == .waiting := by rw [hl]; exact List.mem_cons_self ..
    rw [show firstFetch none (y :: l) = firstFetch (some y) l from rfl, hf]
    simp only [List.mem_filter, beq_iff_eq] at hy
    exact ⟨nofun, fun h => absurd hy.2 (h y hy.1)⟩

theorem State.fetchRequest_some (h : s.fetchRequest = some f) : f ∈ s.reads.fetches ∧ f.state = .waiting
    ∧ ∀ g ∈ s.reads.fetches, g.state = .waiting → f.rank ≤ g.rank := by
  rw [State.fetchRequest_eq] at h
  have hmem (g : Fetch) : g ∈ (s.reads.fetches.filter fun f => f.state == .waiting)
      ↔ g ∈ s.reads.fetches ∧ g.state = .waiting := by simp
  cases hl : s.reads.fetches.filter fun f => f.state == .waiting with
  | nil => rw [hl] at h; cases h
  | cons y l =>
    obtain ⟨f', hf, hin, hle⟩ := firstFetch_some l y
    rw [hl, show firstFetch none (y :: l) = firstFetch (some y) l from rfl, hf] at h
    obtain rfl := Option.some.inj h
    rw [← hl, hmem] at hin
    exact ⟨hin.1, hin.2, fun g hg hw => hle g (by rw [← hl, hmem]; exact ⟨hg, hw⟩)⟩

/-! ### The drain request (04 R72; 05 R106, R108) -/

theorem State.pinned_false_iff (page : Nat) :
    s.pinned page = false ↔ ∀ f ∈ s.reads.fetches, pageOf (evenAddr f.addr) ≠ page := by
  simp [State.pinned]

theorem BufState.working_iff (b : BufState) :
    (b == .filled || b.inProgram) = true ↔ b = .filled ∨ b = .gapRead ∨ b = .programming ∨ b = .verifying := by
  cases b <;> decide

theorem State.drainEligible_iff : s.drainEligible b = true ↔ s.DrainMayGo b := by
  have hbar : ((((s.buf b.other).state == .filled || (s.buf b.other).state.inProgram) && (s.buf b.other).page == (s.buf b).page
        && Decidable.decide ((s.buf b.other).stamp < (s.buf b).stamp)) = true)
      ↔ (s.buf b.other).page = (s.buf b).page ∧ (s.buf b.other).stamp < (s.buf b).stamp
        ∧ ((s.buf b.other).state = .filled ∨ (s.buf b.other).state = .gapRead ∨ (s.buf b.other).state = .programming
          ∨ (s.buf b.other).state = .verifying) := by
    rw [Bool.and_eq_true, Bool.and_eq_true, BufState.working_iff, beq_iff_eq, decide_eq_true_eq]
    exact ⟨fun ⟨⟨hworks, hpage⟩, hstamp⟩ => ⟨hpage, hstamp, hworks⟩, fun ⟨hpage, hstamp, hworks⟩ => ⟨⟨hworks, hpage⟩, hstamp⟩⟩
  unfold State.drainEligible State.requests
  simp only [Bool.and_eq_true, Bool.not_eq_true', State.pinned_false_iff, beq_iff_eq, State.drainRuns_iff]
  rw [← Bool.not_eq_true, hbar]
  exact ⟨fun ⟨⟨⟨hfilled, hruns⟩, hfirst⟩, hfree⟩ => ⟨hfilled, hruns, hfree, hfirst⟩,
    fun ⟨hfilled, hruns, hfree, hfirst⟩ => ⟨⟨⟨hfilled, hruns⟩, hfirst⟩, hfree⟩⟩

/-- The buffer of the older stamp. -/
def State.older (s : State) : Buf := if s.drain.pb1.stamp < s.drain.pb0.stamp then .pb1 else .pb0

theorem State.older_le (s : State) : (s.buf s.older).stamp ≤ (s.buf s.older.other).stamp := by
  unfold State.older
  split
  · exact Nat.le_of_lt ‹_›
  · exact Nat.le_of_not_lt ‹_›

theorem State.drainRequest_eq (s : State) : s.drainRequest
    = if s.drainEligible s.older then some s.older else if s.drainEligible s.older.other then some s.older.other else none :=
  rfl

theorem State.drainRequest_some (h : s.drainRequest = some b) :
    s.DrainMayGo b ∧ (s.DrainMayGo b.other → (s.buf b).stamp ≤ (s.buf b.other).stamp) := by
  refine ⟨State.drainEligible_iff.mp (State.drainRequest_eligible h), fun hother => ?_⟩
  rw [State.drainRequest_eq] at h
  split at h
  · obtain rfl := Option.some.inj h; exact s.older_le
  · rename_i hold
    split at h
    · obtain rfl := Option.some.inj h
      rw [Buf.other_other] at hother
      exact absurd (State.drainEligible_iff.mpr hother) hold
    · cases h

theorem State.drainRequest_none : s.drainRequest = none ↔ ∀ b, ¬ s.DrainMayGo b := by
  simp only [← State.drainEligible_iff]
  rw [State.drainRequest_eq]
  constructor
  · intro h b
    by_cases hb : b = s.older
    · rw [hb]; intro he; rw [if_pos he] at h; cases h
    · have hb' : b = s.older.other := by cases b <;> cases ho : s.older <;> simp_all [Buf.other]
      rw [hb']; intro he
      by_cases ho : s.drainEligible s.older = true
      · rw [if_pos ho] at h; cases h
      · rw [if_neg ho, if_pos he] at h; cases h
  · intro h
    rw [if_neg (h _), if_neg (h _)]

/-! ### The choice (05 R105) -/

theorem State.requestOf_direct : s.requestOf .direct = some op ↔ s.maint.direct.waiting = true ∧
    ((s.maint.slot = .directId ∧ op = .directId) ∨ (s.maint.slot = .directStatus ∧ op = .directStatus)
      ∨ (s.maint.slot = .directRead ∧ op = .directRead) ∨ (s.maint.slot = .directWrite ∧ op = .directWrite
        ∧ ∀ f ∈ s.reads.fetches, pageOf (evenAddr f.addr) ≠ s.maint.direct.line.toNat / 8)) := by
  have hpin := State.pinned_false_iff (s := s) (pageOfLine s.maint.direct.line.toNat)
  change _ ↔ ∀ f ∈ s.reads.fetches, pageOf (evenAddr f.addr) ≠ s.maint.direct.line.toNat / 8 at hpin
  rw [← hpin]
  unfold State.requestOf State.directRequest
  cases hw : s.maint.direct.waiting with
  | false => simp
  | true =>
    cases hs : s.maint.slot with
    | directWrite => cases s.pinned (pageOfLine s.maint.direct.line.toNat) <;> simp [eq_comm (a := op)]
    | idle | apply | flush | directId | directStatus | directRead => simp [eq_comm (a := op)]

theorem State.requestOf_control : s.requestOf .control = some op ↔ (s.control.request = some .probe ∧ op = .probe)
    ∨ (s.control.request = some .markerRead ∧ op = .markerRead)
    ∨ (s.control.request = some .markerWrite ∧ op = .markerWrite) := by
  unfold State.requestOf
  cases s.control.request with
  | none => simp
  | some r => cases r <;> simp [CtrlReq.op, eq_comm (a := op)]

theorem State.chosen_iff : s.chosen = some (k, op) ↔ ∃ before after, s.priorities = before ++ k :: after
    ∧ (∀ j ∈ before, s.requestOf j = none) ∧ s.requestOf k = some op := by
  unfold State.chosen
  rw [List.findSome?_eq_some_iff]
  constructor
  · rintro ⟨before, j, after, hl, hj, hnone⟩
    simp only [Option.map_eq_some_iff, Prod.mk.injEq] at hj
    obtain ⟨op', hop, rfl, rfl⟩ := hj
    exact ⟨before, after, hl, fun i hi => by simpa using hnone i hi, hop⟩
  · rintro ⟨before, after, hl, hnone, hop⟩
    exact ⟨before, k, after, hl, by simp [hop], fun i hi => by simp [hnone i hi]⟩

/-- The arbiter chooses no SETTLE, and a fetch only where one of the port is WAITING. -/
theorem State.requestOf_grants (h : s.requestOf k = some op) :
    (∀ j, op ≠ .settle j) ∧ ∀ p, op = .fetch p → ∃ f ∈ s.reads.fetches, f.port = p ∧ f.state = .waiting := by
  cases k with
  | fetch =>
    obtain ⟨f, hf, rfl⟩ := Option.map_eq_some_iff.mp h
    obtain ⟨hmem, hw, -⟩ := State.fetchRequest_some hf
    exact ⟨nofun, fun p hp => ⟨f, hmem, LinkOp.fetch.inj hp, hw⟩⟩
  | drain =>
    obtain ⟨b, -, rfl⟩ := Option.map_eq_some_iff.mp h
    exact ⟨nofun, nofun⟩
  | control =>
    rcases State.requestOf_control.mp h with ⟨-, rfl⟩ | ⟨-, rfl⟩ | ⟨-, rfl⟩ <;> exact ⟨nofun, nofun⟩
  | direct =>
    obtain ⟨-, ⟨-, rfl⟩ | ⟨-, rfl⟩ | ⟨-, rfl⟩ | ⟨-, rfl, -⟩⟩ := State.requestOf_direct.mp h <;> exact ⟨nofun, nofun⟩

/-! ### The grants hold the link -/

theorem State.startMarkerAttempt_holder (s : State) : s.startMarkerAttempt.link.holder = s.link.holder :=
  State.beginAttempt_holder _

theorem State.grantMarkerWrite_holder (s : State) : s.grantMarkerWrite.link.holder = s.link.holder := by
  unfold State.grantMarkerWrite
  rw [State.startMarkerAttempt_holder]
  split <;> simp

theorem State.grant_holder (hk : s.requestOf k = some op) (hc : op ≠ .directWrite ∨ s.directConflict = false) :
    (s.grant op).link.holder = some op := by
  obtain ⟨hsettle, hfetch⟩ := State.requestOf_grants hk
  cases op with
  | fetch p =>
    obtain ⟨f, hf, hp, hw⟩ := hfetch p rfl
    simp only [State.grant, State.grantFetch]
    split
    · rename_i hnone
      simpa [hp, hw] using List.find?_eq_none.mp hnone f hf
    · rw [State.issue_holder]; rfl
  | program b => exact (s.grantProgram_drain b).2.2
  | probe => exact State.issue_holder ..
  | markerRead => exact State.issue_holder ..
  | markerWrite => exact State.grantMarkerWrite_holder _
  | directId => exact State.issue_holder ..
  | directStatus => exact State.issue_holder ..
  | directRead => exact State.issue_holder ..
  | directWrite =>
    have hno := hc.resolve_left (by simp)
    simp only [State.grant, State.grantDirectWrite, hno, Bool.false_eq_true, if_false]
    exact State.enableOrPin_holder _
  | settle j => exact absurd rfl (hsettle j)

theorem State.grantSettle_holder (s : State) (k : ReqKind) : (s.grantSettle k).link.holder = some (.settle k) :=
  State.issue_holder ..

/-! ### The decision (05 R104) -/

theorem State.decideOnce_none (h : s.chosen = none) : s.decideOnce = s := by simp [State.decideOnce, h]

theorem State.decideOnce_settle (hh : s.link.holder = none) (hc : s.chosen = some (k, op)) (hn : op.needsQuiet = true)
    (hq : s.link.quiet = false) : s.decideOnce = s.grantSettle k := by
  simp [State.decideOnce, hh, hc, hn, hq]

theorem State.decideOnce_grant (hh : s.link.holder = none) (hc : s.chosen = some (k, op))
    (hq : op.needsQuiet = false ∨ s.link.quiet = true) : s.decideOnce = s.grant op := by
  rcases hq with hq | hq <;> simp [State.decideOnce, hh, hc, hq]

theorem State.decide_none (h : s.chosen = none) : s.decide = s := by
  rw [State.decide, State.decideOnce_none h, State.decideOnce_none h]

theorem State.decide_settle (hh : s.link.holder = none) (hc : s.chosen = some (k, op)) (hn : op.needsQuiet = true)
    (hq : s.link.quiet = false) : s.decide = s.grantSettle k := by
  rw [State.decide, State.decideOnce_settle hh hc hn hq, State.decideOnce_held (s.grantSettle_holder k)]

theorem State.decide_grant (hh : s.link.holder = none) (hc : s.chosen = some (k, op))
    (hq : op.needsQuiet = false ∨ s.link.quiet = true) (hd : op ≠ .directWrite ∨ s.directConflict = false) :
    s.decide = s.grant op := by
  rw [State.decide, State.decideOnce_grant hh hc hq, State.decideOnce_held (State.grant_holder (State.chosen_request hc).2 hd)]

theorem exec_arbiterDecision (hr : s.rstn = true) : exec .arbiterDecision s = .next s.decide.tick := by
  simp [exec, execArbiterDecision, hr]

theorem State.directConflict_iff : s.directConflict = true ↔ (∃ e ∈ s.queue.entries, e.line / 8 = s.maint.direct.line.toNat / 8)
    ∨ ∃ b, (s.buf b).state ≠ .free ∧ (s.buf b).page = s.maint.direct.line.toNat / 8 := by
  have hbufs (P : Buf → Prop) : (∃ b, P b) ↔ P .pb0 ∨ P .pb1 :=
    ⟨fun ⟨b, hb⟩ => Buf.rec (motive := fun b => P b → _) .inl .inr b hb, fun h => h.elim (⟨_, ·⟩) (⟨_, ·⟩)⟩
  simp [State.directConflict, hbufs, pageOfLine, or_assoc]

theorem State.issue_eq (m : MemOp) : s.issue m = s.setLink
    (if s.link.wire = none then { s.link with wire := some m } else { s.link with queued := some m }) :=
  congrArg s.setLink (if_iff_congr Option.isNone_iff_eq_none rfl rfl)

/-! ### The marker request of PF_DRAIN (08 R166) -/

theorem State.priorities_pfDrain (hm : s.control.mode = .pfDrain) : s.priorities = [.drain, .control, .fetch] := by
  simp [State.priorities, hm]

/-- While the marker write is due the drain has no request: the budget is 1, or no buffer is FILLED. -/
theorem State.MarkerDue.no_drain (hm : s.control.mode = .pfDrain) (h : s.MarkerDue) : s.requestOf .drain = none := by
  have hnone : s.drainRequest = none := State.drainRequest_none.mpr fun b hb => by
    rcases h with hbudget | ⟨hidle, -⟩
    · rcases hb.runs with h | h | ⟨-, h⟩
      · rw [hm] at h; cases h
      · rw [hm] at h; cases h
      · omega
    · rcases hidle b with h | h <;> rw [hb.filled] at h <;> cases h
  simp [State.requestOf, hnone]

/-- The state that the arbiter decides on has a link that nobody holds unless it was held before. -/
theorem State.beforeDecision_free (hh : s.link.holder = none) :
    s.enterHeldBack.endPinWait.judgeFlush.requestMarker.link = s.link := by
  have hpin : s.enterHeldBack.endPinWait = s.enterHeldBack := by
    simp [State.endPinWait, State.holderPage, hh]
  simp [hpin]

theorem State.markerDue_congr {t : State} (hc : t.control.budget = s.control.budget) (hd : t.drain = s.drain)
    (hq : t.queue = s.queue) : t.MarkerDue ↔ s.MarkerDue := by
  unfold State.MarkerDue State.buf
  rw [hc, hd, hq]

/-- The state before the marker request follows its condition has the same condition. -/
theorem State.beforeRequest (s : State) :
    s.enterHeldBack.endPinWait.judgeFlush.control = s.control
      ∧ (s.enterHeldBack.endPinWait.judgeFlush.MarkerDue ↔ s.MarkerDue) :=
  ⟨by simp, State.markerDue_congr (by simp) (by simp) (by simp)⟩

theorem State.endEvent_holder (s : State) :
    s.endEvent.link.holder = s.enterHeldBack.endPinWait.judgeFlush.requestMarker.decide.link.holder := rfl

theorem State.endEvent_request (s : State) : s.endEvent.control.request
    = s.enterHeldBack.endPinWait.judgeFlush.requestMarker.decide.control.request := rfl

/-- The decision on a state of PF_DRAIN that requests the marker write. -/
theorem State.decide_marker (hm : s.control.mode = .pfDrain) (hh : s.link.holder = none)
    (hreq : s.control.request = some .markerWrite) (hdrain : s.requestOf .drain = none) :
    s.decide.link.holder = some (if s.link.quiet then .markerWrite else .settle .control) := by
  have hcontrol : s.requestOf .control = some .markerWrite := by simp [State.requestOf, hreq, CtrlReq.op]
  have hchosen : s.chosen = some (.control, .markerWrite) := State.chosen_iff.mpr
    ⟨[.drain], [.fetch], State.priorities_pfDrain hm, by simpa using hdrain, hcontrol⟩
  cases hq : s.link.quiet with
  | true =>
    rw [State.decide_grant hh hchosen (.inr hq) (.inl nofun), State.grant_holder hcontrol (.inl nofun)]
    rfl
  | false =>
    rw [State.decide_settle hh hchosen rfl hq, State.grantSettle_holder]
    rfl

/-- The decision on a state of PF_DRAIN that makes no control request. -/
theorem State.decide_noMarker (hm : s.control.mode = .pfDrain) (hh : s.link.holder = none) (hreq : s.control.request = none) :
    s.decide.link.holder ≠ some .markerWrite ∧ s.decide.link.holder ≠ some (.settle .control) := by
  cases hc : s.chosen with
  | none => rw [State.decide_none hc, hh]; exact ⟨nofun, nofun⟩
  | some choice =>
    obtain ⟨k, op⟩ := choice
    obtain ⟨hk, hop⟩ := State.chosen_request hc
    rw [State.priorities_pfDrain hm] at hk
    have hctrl : k ≠ .control := by
      rintro rfl
      simp [State.requestOf, hreq] at hop
    have hkind : (∃ b, op = .program b) ∨ ∃ p, op = .fetch p := by
      cases k with
      | fetch => exact .inr (by obtain ⟨f, -, rfl⟩ := Option.map_eq_some_iff.mp hop; exact ⟨_, rfl⟩)
      | drain => exact .inl (by obtain ⟨b, -, rfl⟩ := Option.map_eq_some_iff.mp hop; exact ⟨_, rfl⟩)
      | control => exact absurd rfl hctrl
      | direct => simp at hk
    have hneeds : op.needsQuiet = true := by rcases hkind with ⟨b, rfl⟩ | ⟨p, rfl⟩ <;> rfl
    cases hq : s.link.quiet with
    | true =>
      have hd : op ≠ .directWrite := by rcases hkind with ⟨b, rfl⟩ | ⟨p, rfl⟩ <;> nofun
      rw [State.decide_grant hh hc (.inr hq) (.inl hd), State.grant_holder hop (.inl hd)]
      rcases hkind with ⟨b, rfl⟩ | ⟨p, rfl⟩ <;> exact ⟨nofun, nofun⟩
    | false =>
      rw [State.decide_settle hh hc hneeds hq, State.grantSettle_holder]
      exact ⟨nofun, fun h => hctrl (LinkOp.settle.inj (Option.some.inj h))⟩

end

end Sys2Proof.Machine

open Sys2Proof Sys2Proof.Machine

/-- Settles O23: one decision on a FREE link, and the grants as they stand. -/
theorem arbiterGrantsChosenOrSettles : Obligations.ArbiterGrantsChosenOrSettles := by
  refine ⟨fun op => ?_, fun s => State.directConflict_iff, fun s hr => ⟨fun h => ?_, fun k op hh hc => ⟨fun hn hq => ?_,
    fun hq hd => ⟨?_, State.grant_holder (State.chosen_request hc).2 hd⟩⟩⟩, fun s f hf hw hone => ?_,
    fun s => ⟨rfl, rfl⟩, fun s m => ⟨State.issue_eq m, rfl⟩⟩
  · cases op <;> simp [LinkOp.needsQuiet]
  · rw [exec_arbiterDecision hr]
    rcases h with h | h
    · obtain ⟨op, hop⟩ := Option.ne_none_iff_exists'.mp h
      rw [State.decide_held hop]
    · rw [State.decide_none h]
  · rw [exec_arbiterDecision hr, State.decide_settle hh hc hn hq]
    rfl
  · rw [exec_arbiterDecision hr, State.decide_grant hh hc hq hd]
  · have hmap : (s.reads.fetches.map fun g => if g == f then { g with state := .onLink, orphaned := false } else g)
        = s.reads.fetches.map fun g => if g.port = f.port then { g with state := .onLink, orphaned := false } else g := by
      refine List.map_congr_left fun g hg => if_iff_congr ?_ rfl rfl
      rw [beq_iff_eq]
      exact ⟨fun h => by rw [h], hone g hg⟩
    simp only [State.grant, State.grantFetch, find?_fetch hf hw hone, hmap]
    rfl

/-- Settles O24: the choice is a search through the priorities, and in PF_DRAIN the decision is made on the marker request
that has just followed its condition. -/
theorem chosenRequestIsFirstEligible : Obligations.ChosenRequestIsFirstEligible := by
  refine ⟨fun s hm => ⟨fun hh => ⟨fun hdue => ?_, fun hdue => ?_⟩, fun op hh => ?_⟩, fun s => ⟨fun k op => State.chosen_iff,
    fun h => ?_, fun h => ⟨fun hlt => ?_, fun hle => ?_⟩, State.priorities_pfDrain, fun h => ?_, fun h => ?_, fun h => ?_,
    fun op => ?_, fun op => ?_, fun op => State.requestOf_control, fun op => State.requestOf_direct, fun f hf => ?_,
    State.fetchRequest_none, fun b => State.drainRequest_some, State.drainRequest_none⟩⟩
  · obtain ⟨hcontrol, hsame⟩ := s.beforeRequest
    have hfree := State.beforeDecision_free hh
    have hnone : s.enterHeldBack.endPinWait.judgeFlush.link.holder = none := by simp [hh]
    have hreq := State.requestMarker_eq (by rw [hcontrol]; exact hm) (some .markerWrite)
      (.inl ⟨rfl, hsame.mpr hdue, by rw [hnone]; nofun⟩)
    have hmode : s.enterHeldBack.endPinWait.judgeFlush.requestMarker.control.mode = .pfDrain := by
      rw [hreq]; simpa using hm
    rw [State.endEvent_holder, State.decide_marker hmode (by rw [hfree, hh]) (by rw [hreq]; rfl), hfree]
    refine State.MarkerDue.no_drain hmode ((State.markerDue_congr ?_ ?_ ?_).mpr hdue)
    · rw [hreq]; simp
    · simp
    · simp
  · obtain ⟨hcontrol, hsame⟩ := s.beforeRequest
    have hfree := State.beforeDecision_free hh
    have hreq := State.requestMarker_eq (by rw [hcontrol]; exact hm) none (.inr ⟨rfl, .inl (mt hsame.mp hdue)⟩)
    rw [State.endEvent_holder]
    exact State.decide_noMarker (by rw [hreq]; simpa using hm) (by rw [hfree, hh]) (by rw [hreq]; rfl)
  · obtain ⟨hcontrol, hsame⟩ := s.beforeRequest
    have hheld : s.enterHeldBack.endPinWait.judgeFlush.link.holder = some op := by simp [hh]
    have hheld' : s.enterHeldBack.endPinWait.judgeFlush.requestMarker.link.holder = some op := by simp [hh]
    have hmode : s.enterHeldBack.endPinWait.judgeFlush.control.mode = .pfDrain := by rw [hcontrol]; exact hm
    rw [State.endEvent_request, State.decide_held hheld']
    by_cases h : ¬ s.MarkerDue ∨ op = .markerWrite
    · refine .inl ⟨?_, h⟩
      rw [State.requestMarker_eq hmode none (.inr ⟨rfl, h.imp (mt hsame.mp) (by rintro rfl; exact hheld)⟩)]
      rfl
    · have h : s.MarkerDue ∧ op ≠ .markerWrite :=
        ⟨Classical.byContradiction fun hd => h (.inl hd), fun he => h (.inr he)⟩
      refine .inr ⟨?_, h⟩
      rw [State.requestMarker_eq hmode (some .markerWrite)
        (.inl ⟨rfl, hsame.mpr h.1, by rw [hheld]; exact fun he => h.2 (Option.some.inj he)⟩)]
      rfl
  · simp [State.priorities, h]
  · have hat : s.atHwm = false := decide_eq_false (Nat.not_le.mpr hlt)
    rcases h with h | h <;> simp [State.priorities, h, hat]
  · have hat : s.atHwm = true := decide_eq_true hle
    rcases h with h | h <;> simp [State.priorities, h, hat]
  · simp [State.priorities, h]
  · simp [State.priorities, h]
  · simp [State.priorities, h]
  · exact Option.map_eq_some_iff.trans (exists_congr fun _ => and_congr_right fun _ => eq_comm)
  · exact Option.map_eq_some_iff.trans (exists_congr fun _ => and_congr_right fun _ => eq_comm)
  · obtain ⟨hmem, hw, hle⟩ := State.fetchRequest_some hf
    exact ⟨hmem, hw, fun g hg hgw => Fetch.before_or_of_rank (hle g hg hgw)⟩
end


section
/-! PROOF. The start of an attempt and the preparation of a span (04 R73 to R77; 05 R102, R109; O25 to O27). -/
namespace Sys2Proof.Machine

section
variable {s : State} {page : Nat} {l : Link} {b : Buf}

/-! ### The page of an operation and its pins (05 R108, R109) -/

theorem State.pinned_iff : s.pinned page = true ↔ ∃ f ∈ s.reads.fetches, 2 * f.addr.toNat / 256 = page := by
  simp [State.pinned, pageOf, evenAddr, Config.pageBytes]

theorem State.holderPage_program (h : s.link.holder = some (.program b)) : s.holderPage = some (s.buf b).page := by
  unfold State.holderPage
  rw [h]

theorem State.holderPage_markerWrite (h : s.link.holder = some .markerWrite) : s.holderPage = some s.markerPage := by
  unfold State.holderPage
  rw [h]

theorem State.holderPage_directWrite (h : s.link.holder = some .directWrite) :
    s.holderPage = some (pageOfLine s.maint.direct.line.toNat) := by
  unfold State.holderPage
  rw [h]

theorem State.holderPage_iff : s.holderPage = some page ↔ (∃ b, s.link.holder = some (.program b) ∧ page = (s.buf b).page)
    ∨ (s.link.holder = some .markerWrite ∧ page = s.markerPage)
    ∨ (s.link.holder = some .directWrite ∧ page = s.maint.direct.line.toNat / 8) := by
  constructor
  · intro h
    unfold State.holderPage at h
    split at h
    case h_1 b hold => exact .inl ⟨b, hold, (Option.some.inj h).symm⟩
    case h_2 hold => exact .inr (.inl ⟨hold, (Option.some.inj h).symm⟩)
    case h_3 hold => exact .inr (.inr ⟨hold, (Option.some.inj h).symm⟩)
    case h_4 => cases h
  · rintro (⟨b, hold, rfl⟩ | ⟨hold, rfl⟩ | ⟨hold, rfl⟩)
    · exact State.holderPage_program hold
    · exact State.holderPage_markerWrite hold
    · exact State.holderPage_directWrite hold

/-! ### The beginning of an attempt (05 R102, R109) -/

theorem State.enableOrPin_eq (h : s.holderPage = some page) : s.enableOrPin
    = if s.pinned page then s.setLink { s.link with pinWait := true } else s.issue .writeEnable := by
  unfold State.enableOrPin
  rw [h]

theorem Link.issue_free (h : l.wire = none) (op : MemOp) : l.issue op = { l with wire := some op } := by
  simp [Link.issue, h]

theorem Link.issue_behind (h : l.wire ≠ none) (op : MemOp) : l.issue op = { l with queued := some op } := by
  simp [Link.issue, h]

/-- What an attempt that begins makes of the link: its WRITE-ENABLE, the pin wait or the settling. -/
def State.AttemptLink (s : State) (page : Nat) (l : Link) : Prop :=
  s.link.quiet = true ∧ s.pinned page = false ∧ s.link.wire = none ∧ l = { s.link with wire := some .writeEnable }
    ∨ s.link.quiet = true ∧ s.pinned page = false ∧ s.link.wire ≠ none ∧ l = { s.link with queued := some .writeEnable }
    ∨ s.link.quiet = true ∧ s.pinned page = true ∧ l = { s.link with pinWait := true }
    ∨ s.link.quiet = false ∧ s.link.wire = none
      ∧ l = { s.link with wire := some .readStatus, settling := true, programTimer := some s.programTimeout }
    ∨ s.link.quiet = false ∧ s.link.wire ≠ none ∧ l = { s.link with queued := some .readStatus, settling := true }

theorem State.beginAttempt_quiet (hq : s.link.quiet = true) : s.beginAttempt = s.enableOrPin := if_pos hq

theorem State.beginAttempt_unsettled (hq : s.link.quiet = false) :
    s.beginAttempt = s.setLink (s.link.settleAttempt s.programTimeout) := by
  simp [State.beginAttempt, hq]

theorem State.beginAttempt_eq (hp : s.holderPage = some page) (hl : s.AttemptLink page l) : s.beginAttempt = s.setLink l := by
  rcases hl with ⟨hq, hpin, hw, rfl⟩ | ⟨hq, hpin, hw, rfl⟩ | ⟨hq, hpin, rfl⟩ | ⟨hq, hw, rfl⟩ | ⟨hq, hw, rfl⟩
  · rw [State.beginAttempt_quiet hq, State.enableOrPin_eq hp, hpin, State.issue, Link.issue_free hw]; rfl
  · rw [State.beginAttempt_quiet hq, State.enableOrPin_eq hp, hpin, State.issue, Link.issue_behind hw]; rfl
  · rw [State.beginAttempt_quiet hq, State.enableOrPin_eq hp, hpin]; rfl
  · rw [State.beginAttempt_unsettled hq, Link.settleAttempt, Link.issue_free hw, hw]; rfl
  · rw [State.beginAttempt_unsettled hq, Link.settleAttempt, Link.issue_behind hw,
      if_neg fun h => hw (Option.isNone_iff_eq_none.mp h)]

theorem State.startProgramAttempt_eq (b : Buf) : s.startProgramAttempt b = (s.setDrain
    { s.drain.setBuf b { s.buf b with state := .programming, attempts := (s.buf b).attempts + 1 }
      with chargeable := Decidable.decide (s.control.mode = .pfDrain) }).beginAttempt := rfl

theorem State.startMarkerAttempt_eq : s.startMarkerAttempt = (s.setControl { s.control with
    marker := { s.control.marker with attempts := s.control.marker.attempts + 1 } }).beginAttempt := rfl

/-- A buffer's attempt starts with the link as its conditions say (04 R77). -/
theorem State.startProgramAttempt_of (hold : s.link.holder = some (.program b)) (hl : s.AttemptLink (s.buf b).page l) :
    s.startProgramAttempt b = (s.setDrain
      { s.drain.setBuf b { s.buf b with state := .programming, attempts := (s.buf b).attempts + 1 }
        with chargeable := Decidable.decide (s.control.mode = .pfDrain) }).setLink l := by
  rw [State.startProgramAttempt_eq]
  refine State.beginAttempt_eq (page := (s.buf b).page) ?_ hl
  refine (State.holderPage_program (b := b) ?_).trans (congrArg some ?_)
  · exact hold
  · cases b <;> rfl

theorem State.startMarkerAttempt_of (hold : s.link.holder = some .markerWrite) (hl : s.AttemptLink s.markerPage l) :
    s.startMarkerAttempt = (s.setControl { s.control with
      marker := { s.control.marker with attempts := s.control.marker.attempts + 1 } }).setLink l := by
  rw [State.startMarkerAttempt_eq]
  exact State.beginAttempt_eq (page := s.markerPage) (State.holderPage_markerWrite hold) hl

/-! ### The preparation of a span (04 R75) -/

theorem State.isHeldPartner_iff : s.isHeldPartner b = true ↔ (s.buf b.other).state ≠ .free
    ∧ (s.buf b.other).page = (s.buf b).page ∧ ((s.buf b.other).state = .held
      ∨ ((s.buf b.other).state = .filled ∧ (s.buf b.other).retried = true ∧ (s.buf b).stamp < (s.buf b.other).stamp)) := by
  simp only [State.isHeldPartner, Bool.and_eq_true, Bool.or_eq_true, bne_iff_ne, ne_eq, beq_iff_eq, decide_eq_true_eq,
    and_assoc]

theorem State.BytesLawful.bufWf (h : s.BytesLawful) (b : Buf) : CellsBelow (s.buf b).bytes 256 := by
  cases b
  · exact h.pb0
  · exact h.pb1

theorem State.BytesLawful.span (h : s.BytesLawful) (b : Buf) (lo hi : Nat) :
    cellsWf (cellsWithin (s.buf b).bytes lo hi) = true := cellsWf_filter _ (h.bufWf b).1

/-- A byte of the prepared span: the partner's before the buffer's own where the partner is the younger, and otherwise in
its holes (04 R75, steps 2 and 3). -/
theorem State.cellsGet_preparedBytes (h : s.BytesLawful) (b : Buf) (a : Nat) : cellsGet (s.preparedBytes b) a
    = if s.isHeldPartner b = true ∧ cellsFirst (s.buf b).bytes ≤ a ∧ a ≤ cellsLast (s.buf b).bytes then
        (if (s.buf b).stamp < (s.buf b.other).stamp then (cellsGet (s.buf b.other).bytes a).or (cellsGet (s.buf b).bytes a)
          else (cellsGet (s.buf b).bytes a).or (cellsGet (s.buf b.other).bytes a))
      else cellsGet (s.buf b).bytes a := by
  have hwf := h.span b.other (cellsFirst (s.buf b).bytes) (cellsLast (s.buf b).bytes)
  unfold State.preparedBytes
  dsimp only
  by_cases hp : s.isHeldPartner b = true
  · rw [hp, if_neg (by decide)]
    by_cases hlt : (s.buf b).stamp < (s.buf b.other).stamp
    · rw [if_pos hlt, if_pos hlt, cellsGet_lay _ _ _ hwf, cellsGet_within]
      by_cases hspan : cellsFirst (s.buf b).bytes ≤ a ∧ a ≤ cellsLast (s.buf b).bytes
      · rw [if_pos hspan, if_pos ⟨rfl, hspan⟩]
      · rw [if_neg hspan, if_neg fun hall => hspan hall.2, Option.none_or]
    · rw [if_neg hlt, if_neg hlt, cellsGet_fill _ _ _ hwf, cellsGet_within]
      by_cases hspan : cellsFirst (s.buf b).bytes ≤ a ∧ a ≤ cellsLast (s.buf b).bytes
      · rw [if_pos hspan, if_pos ⟨rfl, hspan⟩]
      · rw [if_neg hspan, if_neg fun hall => hspan hall.2, Option.or_none]
  · rw [if_pos (by simp [hp]), if_neg fun hall => hp hall.1]

/-- The grant's preparation: the link is held, the span prepared and the partner marked (04 R75). -/
def State.prepared (s : State) (b : Buf) : State :=
  (s.setLink { s.link with holder := some (.program b) }).setDrain
    { s.drain.setBuf b { s.buf b with bytes := s.preparedBytes b, retried := false } with
      partner := if s.isHeldPartner b then some b.other else none }

theorem State.prepared_buf : (s.prepared b).buf b = { s.buf b with bytes := s.preparedBytes b, retried := false } := by
  cases b <;> rfl

theorem State.grantProgram_attempt (h : holesOf (s.preparedBytes b) = []) :
    s.grantProgram b = (s.prepared b).startProgramAttempt b := by
  unfold State.grantProgram
  dsimp only
  rw [h]
  cases b <;> rfl

theorem State.grantProgram_gapRead {a : Nat} {rest : List Nat} (h : holesOf (s.preparedBytes b) = a :: rest) :
    s.grantProgram b = ((s.prepared b).setBuf b
      { s.buf b with state := .gapRead, bytes := s.preparedBytes b, retried := false }).issue
        (.readData ((s.buf b).page * 256 + a) ((rest.getLast?.getD a) - a + 1)) := by
  unfold State.grantProgram
  dsimp only
  rw [h]
  cases b <;> rfl

/-- The buffer after its grant: the prepared span, in its first attempt or in its gap read. -/
theorem State.grantProgram_buf : ∃ st n, (st = .gapRead ∨ st = .programming) ∧ (s.grantProgram b).buf b
    = { s.buf b with state := st, bytes := s.preparedBytes b, attempts := n, retried := false } := by
  cases hholes : holesOf (s.preparedBytes b) with
  | nil =>
    refine ⟨.programming, (s.buf b).attempts + 1, .inr rfl, ?_⟩
    rw [State.grantProgram_attempt hholes, (State.startProgramAttempt_drain _ b).1, State.prepared_buf]
  | cons a rest =>
    refine ⟨.gapRead, (s.buf b).attempts, .inl rfl, ?_⟩
    rw [State.grantProgram_gapRead hholes]
    cases b <;> rfl

theorem State.grantProgram_partner :
    (s.grantProgram b).drain.partner = if s.isHeldPartner b then some b.other else none := by
  cases hholes : holesOf (s.preparedBytes b) with
  | nil => rw [State.grantProgram_attempt hholes, (State.startProgramAttempt_drain _ b).2.2.2.1]; rfl
  | cons a rest =>
    rw [State.grantProgram_gapRead hholes]
    cases b <;> rfl

theorem State.grantProgram_queue : (s.grantProgram b).queue = s.queue := by
  cases hholes : holesOf (s.preparedBytes b) with
  | nil => rw [State.grantProgram_attempt hholes, (State.startProgramAttempt_frame _ b).2.2.2.1]; rfl
  | cons a rest =>
    rw [State.grantProgram_gapRead hholes]
    cases b <;> rfl

/-! ### A lookup through two buffers (03 R49) -/

/-- What one buffer shows before the other is kept when the older takes over bytes of the younger as its own, or the
younger fills its places with bytes of the older. -/
theorem State.drain_lookup_taken {s t : State} {a : Nat} (b : Buf)
    (hother : t.buf b.other = s.buf b.other) (hstamp : (t.buf b).stamp = (s.buf b).stamp)
    (hbyte : (t.buf b).lookup a = (s.buf b).lookup a
      ∨ ((s.buf b).stamp < (s.buf b.other).stamp
          ∧ (t.buf b).lookup a = ((s.buf b.other).lookup a).or ((s.buf b).lookup a))
      ∨ (¬ (s.buf b).stamp < (s.buf b.other).stamp
          ∧ (t.buf b).lookup a = ((s.buf b).lookup a).or ((s.buf b.other).lookup a))) :
    t.drain.lookup a = s.drain.lookup a := by
  have hfirst : ∀ x y : Option Byte, x.or (x.or y) = x.or y := fun x y => by cases x <;> rfl
  have hlast : ∀ x y : Option Byte, (x.or y).or y = x.or y := fun x y => by cases x <;> cases y <;> rfl
  have hswap : ∀ x y : Option Byte, y.or (x.or y) = y.or x := fun x y => by cases x <;> cases y <;> rfl
  cases b with
  | pb0 =>
    simp only [State.buf, Drain.buf, Buf.other] at hother hstamp hbyte
    unfold Drain.lookup
    rw [hother, hstamp]
    rcases hbyte with h | ⟨hlt, h⟩ | ⟨hlt, h⟩
    · rw [h]
    · rw [if_pos hlt, if_pos hlt, h, hfirst]
    · rw [if_neg hlt, if_neg hlt, h, hlast]
  | pb1 =>
    simp only [State.buf, Drain.buf, Buf.other] at hother hstamp hbyte
    unfold Drain.lookup
    rw [hother, hstamp]
    rcases hbyte with h | ⟨hlt, h⟩ | ⟨hlt, h⟩
    · rw [h]
    · rw [if_neg (Nat.not_lt.mpr (Nat.le_of_lt hlt)), if_neg (Nat.not_lt.mpr (Nat.le_of_lt hlt)), h, hfirst]
    · split
      · rw [h, hlast]
      · rw [h, hswap]

/-- The grant changes nothing that a read finds (04 R75, 03 R57). -/
theorem State.grantProgram_lookup (hb : s.BytesLawful) (hf : (s.buf b).state = .filled) (a : Nat) :
    (s.grantProgram b).lookup a = s.lookup a := by
  obtain ⟨st, n, hst, hbuf⟩ := s.grantProgram_buf (b := b)
  have hother := (s.grantProgram_drain b).1
  have hfree : st ≠ .free := by rcases hst with rfl | rfl <;> decide
  unfold State.lookup
  rw [State.grantProgram_queue]
  congr 1
  refine State.drain_lookup_taken b hother (by rw [hbuf]) ?_
  have hlook : ((s.grantProgram b).buf b).lookup a
      = if (s.buf b).page = a / 256 then cellsGet (s.preparedBytes b) (a % 256) else none := by
    rw [hbuf, PageBuffer.lookup_eq]
    exact if_iff_congr (and_iff_right hfree) rfl rfl
  have hown : (s.buf b).lookup a = if (s.buf b).page = a / 256 then cellsGet (s.buf b).bytes (a % 256) else none := by
    rw [PageBuffer.lookup_eq]
    exact if_iff_congr (and_iff_right (by rw [hf]; decide)) rfl rfl
  rw [hlook, s.cellsGet_preparedBytes hb, hown]
  by_cases hpage : (s.buf b).page = a / 256
  · simp only [if_pos hpage]
    by_cases htaken : s.isHeldPartner b = true ∧ cellsFirst (s.buf b).bytes ≤ a % 256 ∧ a % 256 ≤ cellsLast (s.buf b).bytes
    · obtain ⟨hnot, hsame, -⟩ := State.isHeldPartner_iff.mp htaken.1
      have hpartner : (s.buf b.other).lookup a = cellsGet (s.buf b.other).bytes (a % 256) := by
        rw [PageBuffer.lookup_eq, if_pos ⟨hnot, hsame.trans hpage⟩]
      rw [if_pos htaken, hpartner]
      by_cases hlt : (s.buf b).stamp < (s.buf b.other).stamp
      · exact .inr (.inl ⟨hlt, if_pos hlt⟩)
      · exact .inr (.inr ⟨hlt, if_neg hlt⟩)
    · exact .inl (if_neg htaken)
  · exact .inl (by rw [if_neg hpage, if_neg hpage])

/-! ### The span (04 R73) -/

theorem cellsBytes_get (c : List Host.Cell) {first len i : Nat} (h : i < len) :
    (cellsBytes c first len)[i]? = some ((cellsGet c (first + i)).getD 0) := by
  simp [cellsBytes, h]

theorem PageBuffer.span_facts (x : PageBuffer) (h : CellsBelow x.bytes 256) (hne : x.bytes ≠ []) : ∃ first last : Nat,
    first ≤ last ∧ last < 256 ∧ (cellsGet x.bytes first).isSome = true ∧ (cellsGet x.bytes last).isSome = true
    ∧ (∀ a, (cellsGet x.bytes a).isSome = true → first ≤ a ∧ a ≤ last)
    ∧ cellsFirst x.bytes = first ∧ cellsLast x.bytes = last
    ∧ x.spanAddr = x.page * 256 + first ∧ x.spanLen = last - first + 1 ∧ x.spanBytes.length = last - first + 1
    ∧ (∀ a, first ≤ a → a ≤ last → x.spanBytes[a - first]? = some ((cellsGet x.bytes a).getD 0))
    ∧ (∀ a, a ∈ holesOf x.bytes ↔ first ≤ a ∧ a ≤ last ∧ cellsGet x.bytes a = none)
    ∧ (holesOf x.bytes).Pairwise (· < ·) := by
  have hlen : x.spanLen = cellsLast x.bytes - cellsFirst x.bytes + 1 :=
    if_neg fun he => hne (List.isEmpty_iff.mp he)
  refine ⟨cellsFirst x.bytes, cellsLast x.bytes, cellsFirst_le_cellsLast h.1, h.cellsLast_lt (by decide),
    cellsGet_isSome_iff.mpr (exists_mem_cellsFirst hne), cellsGet_isSome_iff.mpr (exists_mem_cellsLast hne),
    fun a ha => ?_, rfl, rfl, rfl, hlen, x.length_spanBytes.trans hlen, fun a hfirst hlast => ?_,
    fun a => mem_holesOf h.1, holesOf_pairwise _⟩
  · obtain ⟨c, hc, rfl⟩ := cellsGet_isSome_iff.mp ha
    exact ⟨cellsFirst_le h.1 c hc, le_cellsLast h.1 c hc⟩
  · rw [PageBuffer.spanBytes, hlen, PageBuffer.spanFirst, cellsBytes_get _ (by omega), Nat.add_sub_cancel' hfirst]

/-! ### The gap read (04 R76) -/

theorem exec_gapReadCompletion {addr : Nat} {bytes : List Byte} (hr : s.rstn = true)
    (hold : s.link.holder = some (.program b)) (hw : s.link.wire = some (.readData addr bytes.length))
    (hg : (s.buf b).state = .gapRead) : exec (.gapReadCompletion bytes) s
      = .next ((((s.setLink s.link.wireDone).setBuf b ((s.buf b).takeGap addr bytes)).startProgramAttempt b).endEvent) := by
  simp only [exec, execGapReadCompletion, hr, hold, hw, hg, beq_self_eq_true, Bool.and_self, if_true]

theorem PageBuffer.cellsGet_takeGap (x : PageBuffer) (addr : Nat) (bytes : List Byte) (a : Nat) :
    cellsGet (x.takeGap addr bytes).bytes a
      = (cellsGet x.bytes a).or (if addr % 256 ≤ a then bytes[a - addr % 256]? else none) := by
  rw [PageBuffer.takeGap, cellsGet_fill _ _ _ (cellsWf_at ..), cellsGet_at]

end
end Sys2Proof.Machine

open Sys2Proof Sys2Proof.Machine

/-- Settles O27: the five ways of `State.AttemptLink`, for a buffer's attempt and for the marker write's. -/
theorem attemptStart : Obligations.AttemptStart := by
  unfold Obligations.AttemptStart
  refine ⟨fun s page => ⟨State.pinned_iff, State.holderPage_iff, State.enableOrPin_eq⟩, fun s page l hp hl => ⟨?_, ?_⟩⟩
  · intro b hold
    obtain rfl := Option.some.inj ((State.holderPage_program hold).symm.trans hp)
    exact State.startProgramAttempt_of hold hl
  · intro hold
    obtain rfl := Option.some.inj ((State.holderPage_markerWrite hold).symm.trans hp)
    exact State.startMarkerAttempt_of hold hl

/-- Settles O26. -/
theorem gapReadFillsHoles : Obligations.GapReadFillsHoles := by
  unfold Obligations.GapReadFillsHoles
  rintro s b addr bytes x hr hold hw hg rfl
  exact ⟨exec_gapReadCompletion hr hold hw hg, (s.buf b).cellsGet_takeGap addr bytes⟩

/-- Settles O25, by the two courses of a grant: with holes left the gap read, without any the first attempt. -/
theorem grantPreparesSpan : Obligations.GrantPreparesSpan := by
  unfold Obligations.GrantPreparesSpan
  refine ⟨PageBuffer.span_facts, ?_⟩
  rintro s t b x y partner hb rfl rfl hf rfl hpartner
  obtain rfl : partner = s.isHeldPartner b := by
    rw [hpartner, Bool.eq_iff_iff, decide_eq_true_eq, State.isHeldPartner_iff]
  obtain ⟨st, n, hst, hbuf⟩ := s.grantProgram_buf (b := b)
  have hbytes : ((s.grant (.program b)).buf b).bytes = s.preparedBytes b := congrArg PageBuffer.bytes hbuf
  obtain ⟨hother, -, hold⟩ := s.grantProgram_drain b
  rw [hbytes]
  refine ⟨hold, hother, State.grantProgram_partner, s.cellsGet_preparedBytes hb b, fun hnil => ?_, fun a rest hcons => ?_,
    by rw [State.grant, hbuf], ?_, fun hnil => ?_, State.grantProgram_lookup hb hf⟩
  · rw [State.grant, State.grantProgram_attempt hnil, (State.startProgramAttempt_drain _ b).1, State.prepared_buf]
    exact ⟨rfl, rfl⟩
  · rw [State.grant, State.grantProgram_gapRead hcons]
    cases b <;> exact ⟨rfl, rfl, rfl⟩
  · rintro u v rfl rfl
    exact ⟨State.grantProgram_attempt, fun a rest => State.grantProgram_gapRead⟩
  · rw [State.grant, State.grantProgram_attempt hnil]
    refine ⟨?_, fun hq hw hpin => ?_⟩
    · rw [State.startProgramAttempt_eq, (State.beginAttempt_frame _).2.2.2.2.2.1]
      rfl
    · have hlink : (s.prepared b).AttemptLink ((s.prepared b).buf b).page
          { (s.prepared b).link with wire := some .writeEnable } :=
        .inl ⟨hq, by rw [State.prepared_buf]; exact hpin, hw, rfl⟩
      rw [State.startProgramAttempt_of (s := s.prepared b) rfl hlink]
      rfl
end


section
/-! PROOF. The wire form of the memory operations, WRITE-ENABLE and PAGE-WRITE, and what follows a READ-STATUS that
does not end an attempt (05 R94 to R102; O28, O29). -/
namespace Sys2Proof.Machine

/-! ### Bytes and bits on the wire (05 R94) -/

theorem extractLsb'_ofNat24 (a i : Nat) (h : i + 8 ≤ 24) :
    (BitVec.ofNat 24 a).extractLsb' i 8 = BitVec.ofNat 8 (a / 2 ^ i) := by
  ext j hj
  rw [BitVec.getElem_extractLsb', ← BitVec.getLsbD_eq_getElem, BitVec.getLsbD_ofNat, BitVec.getLsbD_ofNat,
    Nat.testBit_div_two_pow, decide_eq_true (by omega : i + j < 24), decide_eq_true hj, Nat.add_comm]

/-- Three bytes of an address, most significant first. -/
theorem be24_ofNat (a : Nat) :
    be24 (BitVec.ofNat 24 a) = [BitVec.ofNat 8 (a / 65536), BitVec.ofNat 8 (a / 256), BitVec.ofNat 8 a] := by
  rw [be24, extractLsb'_ofNat24 _ _ (by decide), extractLsb'_ofNat24 _ _ (by decide), extractLsb'_ofNat24 _ _ (by decide)]
  simp

/-- The first `n` bits of a byte that comes in most significant bit first. -/
def wireBits (level : Nat → Bool) (start n : Nat) : Byte :=
  (List.range n).foldl (fun acc j => (acc <<< 1) ||| cond (level (start + j)) 1 0) 0

theorem wireBits_succ (level : Nat → Bool) (start n : Nat) :
    wireBits level start (n + 1) = (wireBits level start n <<< 1) ||| cond (level (start + n)) 1 0 := by
  simp [wireBits, List.range_succ]

theorem wireBits_getLsbD (level : Nat → Bool) (start n i : Nat) (hi : i < n) (h8 : i < 8) :
    (wireBits level start n).getLsbD i = level (start + (n - 1 - i)) := by
  induction n generalizing i with
  | zero => omega
  | succ n ih =>
    rw [wireBits_succ, BitVec.getLsbD_or, BitVec.getLsbD_shiftLeft, decide_eq_true h8, Bool.true_and]
    cases i with
    | zero => cases hl : level (start + n) <;> simp [hl]
    | succ i =>
      have hlow : (cond (level (start + n)) 1 0 : Byte).getLsbD (i + 1) = false := by
        cases level (start + n) <;> simp
      rw [hlow, Bool.or_false, Nat.add_sub_cancel, decide_eq_false (by omega : ¬ i + 1 < 1), Bool.not_false, Bool.true_and,
        ih i (by omega) (by omega)]
      congr 2
      omega

/-- Bit by bit, the byte that eight levels carry. -/
theorem wireByte_getLsbD (level : Nat → Bool) (start : Nat) {j : Nat} (hj : j < 8) :
    (wireByte level start).getLsbD (7 - j) = level (start + j) := by
  rw [show wireByte level start = wireBits level start 8 from rfl, wireBits_getLsbD _ _ _ _ (by omega) (by omega)]
  congr 2
  omega

theorem wireBit_eq (bytes : List Byte) (k : Nat) : wireBit bytes k = (bytes.getD (k / 8) 0).getLsbD (7 - k % 8) := by
  rw [wireBit, BitVec.getMsbD, decide_eq_true (Nat.mod_lt _ (by decide)), Bool.true_and]

theorem MemOp.length_received (op : MemOp) (mdi : Nat → Bool) : (op.received mdi).length = op.answerLen := by
  simp [MemOp.received]

theorem MemOp.received_bit (op : MemOp) (mdi : Nat → Bool) {i j : Nat} (hi : i < op.answerLen) (hj : j < 8) :
    ((op.received mdi).getD i 0).getLsbD (7 - j) = mdi (8 * op.sent.length + 8 * i + j) := by
  have hget : (op.received mdi).getD i 0 = wireByte mdi (8 * (op.sent.length + i)) := by
    simp [MemOp.received, List.getD, hi]
  rw [hget, wireByte_getLsbD _ _ hj, Nat.mul_add]

section
variable {s : State} {b : Buf} {st : Byte} {page addr : Nat} {data : List Byte} {op : LinkOp}

/-! ### WRITE-ENABLE and PAGE-WRITE (05 R95, R97, R108; 08 R165) -/

theorem SerialMemory.writeEnable_eq (m : SerialMemory) :
    (m.busy = true → m.writeEnable = m)
      ∧ (m.busy = false → m.writeEnable = { m with writeEnabled := true, writeFail := false }) := by
  constructor
  · intro h; simp [SerialMemory.writeEnable, h]
  · intro h; simp [SerialMemory.writeEnable, h]

theorem SerialMemory.pageWrite_ignored {m : SerialMemory} (h : m.busy = true ∨ m.writeEnabled = false) :
    m.pageWrite addr data = m := by
  rcases h with h | h <;> simp [SerialMemory.pageWrite, h]

theorem SerialMemory.pageWrite_starts {m : SerialMemory} (hb : m.busy = false) (hw : m.writeEnabled = true) :
    m.pageWrite addr data = { m with busy := true, program := some (addr, data) } := by
  simp [SerialMemory.pageWrite, hb, hw]

theorem exec_writeEnableCompletion (hr : s.rstn = true) (hw : s.link.wire = some .writeEnable) :
    exec .writeEnableCompletion s
      = .next ((((s.setLink s.link.wireDone).setMemory s.memory.writeEnable).issuePageWrite).endEvent) := by
  simp only [exec, execWriteEnableCompletion, hr, hw, beq_self_eq_true, Bool.and_self, if_true]

theorem State.holderWrite_program (h : s.link.holder = some (.program b)) :
    s.holderWrite = some ((s.buf b).spanAddr, (s.buf b).spanBytes) := by
  unfold State.holderWrite
  rw [h]

theorem State.holderWrite_markerWrite (h : s.link.holder = some .markerWrite) :
    s.holderWrite = some (s.markerAddr, s.control.marker.record.encode) := by
  unfold State.holderWrite
  rw [h]

theorem State.issuePageWrite_pinned (hp : s.holderPage = some page) (hw : s.holderWrite = some (addr, data))
    (hpin : s.pinned page = true) : s.issuePageWrite = s.setLink { s.link with pinWait := true } := by
  unfold State.issuePageWrite
  rw [hp, hw]
  exact if_pos hpin

theorem State.issuePageWrite_free (hp : s.holderPage = some page) (hw : s.holderWrite = some (addr, data))
    (hpin : s.pinned page = false) :
    s.issuePageWrite = ((s.issue (.pageWrite addr data)).chargePageWrite).countRunIssued := by
  unfold State.issuePageWrite
  rw [hp, hw]
  exact if_neg (by simp [hpin])

/-- A page write of a buffer is charged in PF_DRAIN if its attempt started there, the marker write's in PF_DRAIN. -/
def State.Charged (s : State) (charged : Bool) : Prop :=
  (∃ b, s.link.holder = some (.program b))
      ∧ charged = (Decidable.decide (s.control.mode = .pfDrain) && s.drain.chargeable)
    ∨ s.link.holder = some .markerWrite ∧ charged = Decidable.decide (s.control.mode = .pfDrain)

theorem State.chargePageWrite_eq {charged : Bool} (h : s.Charged charged) : s.chargePageWrite
    = s.setControl { s.control with budget := if charged then s.control.budget - 1 else s.control.budget } := by
  unfold State.chargePageWrite
  dsimp only
  rcases h with ⟨⟨b, hold⟩, rfl⟩ | ⟨hold, rfl⟩
  · rw [hold]
    change (if (Decidable.decide (s.control.mode = .pfDrain) && s.drain.chargeable) = true then _ else _) = _
    cases Decidable.decide (s.control.mode = .pfDrain) && s.drain.chargeable <;> rfl
  · rw [hold, Bool.and_true]
    change (if Decidable.decide (s.control.mode = .pfDrain) = true then _ else _) = _
    cases Decidable.decide (s.control.mode = .pfDrain) <;> rfl

theorem State.Charged.noRun {charged : Bool} (h : s.Charged charged) : s.link.holder ≠ some .directWrite := by
  rcases h with ⟨⟨b, hold⟩, -⟩ | ⟨hold, -⟩ <;> rw [hold] <;> nofun

theorem State.countRunIssued_other (h : s.link.holder ≠ some .directWrite) : s.countRunIssued = s := by
  unfold State.countRunIssued
  exact if_neg (by simpa using h)

/-- The PAGE-WRITE of a buffer or of the marker write is issued and charged on an idle wire. -/
theorem State.issuePageWrite_charged {charged : Bool} (hp : s.holderPage = some page)
    (hw : s.holderWrite = some (addr, data)) (hidle : s.link.wire = none) (hpin : s.pinned page = false)
    (hc : s.Charged charged) : s.issuePageWrite = (s.setLink { s.link with wire := some (.pageWrite addr data) }).setControl
      { s.control with budget := if charged then s.control.budget - 1 else s.control.budget } := by
  have hissued : (s.issue (.pageWrite addr data)).Charged charged := by
    unfold State.Charged
    rw [State.issue_holder]
    exact hc
  have hno : (s.issue (.pageWrite addr data)).chargePageWrite.link.holder ≠ some .directWrite := by
    rw [State.chargePageWrite_eq hissued]
    exact hissued.noRun
  rw [State.issuePageWrite_free hp hw hpin, State.countRunIssued_other hno, State.chargePageWrite_eq hissued, State.issue,
    Link.issue_free hidle]
  rfl

theorem exec_pageWriteCompletion (hr : s.rstn = true) (hw : s.link.wire = some (.pageWrite addr data)) :
    exec .pageWriteCompletion s
      = .next ((s.setLink (s.link.pageWritten s.programTimeout)).setMemory (s.memory.pageWrite addr data)) := by
  simp only [exec, execPageWriteCompletion, hr, hw]

theorem exec_pollIntervalExpiry (hr : s.rstn = true) (hp : s.link.pollWait = true) :
    exec .pollIntervalExpiry s = .next ((s.setLink { s.link with pollWait := false }).issue .readStatus) := by
  simp only [exec, execPollIntervalExpiry, hr, hp, Bool.and_self, if_true]

/-! ### READ-STATUS (05 R95, R96, R99 to R102) -/

theorem SerialMemory.sawStatus_same {m : SerialMemory} (h : m.busy = false ∨ statusBusy st = true) (now : Nat) :
    m.sawStatus st now = m := by
  rcases h with h | h <;> simp [SerialMemory.sawStatus, h]

theorem SerialMemory.sawStatus_ends {m : SerialMemory} (hb : m.busy = true) (hs : statusBusy st = false) (now : Nat) :
    m.sawStatus st now = m.endProgram (statusWriteFail st) now := by
  simp [SerialMemory.sawStatus, hb, hs]

theorem SerialMemory.endProgram_flags (m : SerialMemory) (failed : Bool) (now : Nat) :
    (m.endProgram failed now).busy = false ∧ (m.endProgram failed now).writeEnabled = false
      ∧ (m.endProgram failed now).writeFail = failed ∧ (m.endProgram failed now).program = none := by
  unfold SerialMemory.endProgram
  split
  · exact ⟨rfl, rfl, rfl, rfl⟩
  · rename_i hnone; exact ⟨rfl, rfl, rfl, hnone⟩

theorem exec_readStatusCompletion_stale (hr : s.rstn = true) (hw : s.link.wire = some .readStatus)
    (hs : s.link.stale = true) : exec (.readStatusCompletion st) s = .next ((s.sawStatus st).afterStale).endEvent := by
  simp only [exec, execReadStatusCompletion, hr, hw, hs, beq_self_eq_true, Bool.and_self, if_true]

theorem exec_readStatusCompletion_judged (hr : s.rstn = true) (hw : s.link.wire = some .readStatus)
    (hs : s.link.stale = false) (hold : s.link.holder = some op) (hp : op.polls = true) :
    exec (.readStatusCompletion st) s = .next ((s.sawStatus st).judgeStatus op st).endEvent := by
  simp only [exec, execReadStatusCompletion, hr, hw, hs, hold, hp, beq_self_eq_true, Bool.and_self, if_true]
  rfl

theorem State.sawStatus_busy (h : statusBusy st = true) : s.sawStatus st = s.setLink s.link.wireDone := by
  unfold State.sawStatus Link.sawStatus
  rw [h, SerialMemory.sawStatus_same (.inr h), Bool.not_true, Bool.or_false]
  rfl

theorem State.sawStatus_done (h : statusBusy st = false) : s.sawStatus st
    = (s.setLink { s.link with wire := none, quiet := true }).setMemory (s.memory.sawStatus st s.now) := by
  unfold State.sawStatus Link.sawStatus
  rw [h, Bool.not_false, Bool.or_true]

/-- What a READ-STATUS that reads BUSY 0 leaves of the link and of the memory. -/
def State.quieted (s : State) (st : Byte) : State := (s.setLink s.link.polled).setMemory (s.memory.sawStatus st s.now)

theorem State.judgeStatus_busy (t : State) (hp : op.polls = true) (h : statusBusy st = true) :
    t.judgeStatus op st = t.pollAgain := by
  cases op with
  | program b => exact if_pos h
  | markerWrite => exact if_pos h
  | directWrite => exact if_pos h
  | probe => exact if_pos h
  | settle k => exact if_pos h
  | fetch p => cases hp
  | markerRead => cases hp
  | directId => cases hp
  | directStatus => cases hp
  | directRead => cases hp

section
variable (hr : s.rstn = true) (hw : s.link.wire = some .readStatus) (hs : s.link.stale = false)
include hr hw hs

/-- BUSY 1: the poll interval starts again. -/
theorem exec_readStatusCompletion_busy (hold : s.link.holder = some op) (hp : op.polls = true) (h : statusBusy st = true) :
    exec (.readStatusCompletion st) s = .next (s.setLink { s.link with wire := none, pollWait := true }).endEvent := by
  rw [exec_readStatusCompletion_judged hr hw hs hold hp, State.judgeStatus_busy _ hp h, State.sawStatus_busy h]
  rfl

/-- BUSY 0 of an attempt that settles: its WRITE-ENABLE follows. -/
theorem exec_readStatusCompletion_settled (hold : s.link.holder = some op) (hset : s.link.settling = true)
    (hop : op = .markerWrite ∨ ∃ b, op = .program b) (h : statusBusy st = false) : exec (.readStatusCompletion st) s
      = .next ((((s.setLink { s.link.polled with settling := false }).setMemory
          (s.memory.sawStatus st s.now)).enableOrPin).endEvent) := by
  have hjudge : (s.sawStatus st).judgeStatus op st = (s.sawStatus st).settled := by
    rcases hop with rfl | ⟨b, rfl⟩
    · exact (if_neg (by simp [h])).trans (if_pos hset)
    · exact (if_neg (by simp [h])).trans (if_pos hset)
  have hpolls : op.polls = true := by rcases hop with rfl | ⟨b, rfl⟩ <;> rfl
  rw [exec_readStatusCompletion_judged hr hw hs hold hpolls, hjudge, State.sawStatus_done h]
  rfl

/-- BUSY 0 after a buffer's page write: its status is judged. -/
theorem exec_readStatusCompletion_program (hold : s.link.holder = some (.program b)) (hset : s.link.settling = false)
    (h : statusBusy st = false) :
    exec (.readStatusCompletion st) s = .next (((s.quieted st).judgeProgram b st).endEvent) := by
  have hjudge : (s.sawStatus st).judgeStatus (.program b) st = ((s.sawStatus st).pollEnds).judgeProgram b st :=
    (if_neg (by simp [h])).trans (if_neg (by rw [Bool.not_eq_true]; exact hset))
  rw [exec_readStatusCompletion_judged hr hw hs hold rfl, hjudge, State.sawStatus_done h]
  rfl

/-- BUSY 0 after the marker page's write: its status is judged. -/
theorem exec_readStatusCompletion_marker (hold : s.link.holder = some .markerWrite) (hset : s.link.settling = false)
    (h : statusBusy st = false) :
    exec (.readStatusCompletion st) s = .next (((s.quieted st).judgeMarker st).endEvent) := by
  have hjudge : (s.sawStatus st).judgeStatus .markerWrite st = ((s.sawStatus st).pollEnds).judgeMarker st :=
    (if_neg (by simp [h])).trans (if_neg (by rw [Bool.not_eq_true]; exact hset))
  rw [exec_readStatusCompletion_judged hr hw hs hold rfl, hjudge, State.sawStatus_done h]
  rfl

/-- BUSY 0 after a run of a DIRECT-WRITE: its status is judged. -/
theorem exec_readStatusCompletion_run (hold : s.link.holder = some .directWrite) (h : statusBusy st = false) :
    exec (.readStatusCompletion st) s = .next (((s.quieted st).judgeRun st).endEvent) := by
  have hjudge : (s.sawStatus st).judgeStatus .directWrite st = ((s.sawStatus st).pollEnds).judgeRun st :=
    if_neg (by simp [h])
  rw [exec_readStatusCompletion_judged hr hw hs hold rfl, hjudge, State.sawStatus_done h]
  rfl

end

theorem State.judgeProgram_verify (hf : statusWriteFail st = false) (hv : s.verify = true) : s.judgeProgram b st
    = (s.setBuf b { s.buf b with state := .verifying }).issue (.readData (s.buf b).spanAddr (s.buf b).spanLen) := by
  simp [State.judgeProgram, hf, hv]

theorem State.judgeProgram_failed (hf : statusWriteFail st = true) : s.judgeProgram b st = s.attemptFailed b .statusFail :=
  if_pos hf

theorem State.judgeProgram_success (hf : statusWriteFail st = false) (hv : s.verify = false) :
    s.judgeProgram b st = s.programSuccess b := by
  simp [State.judgeProgram, hf, hv]

theorem State.judgeMarker_verify (hf : statusWriteFail st = false) (hv : s.verify = true) :
    s.judgeMarker st = s.issue (.readData s.markerAddr 16) := by
  simp [State.judgeMarker, hf, hv]

theorem State.judgeMarker_failed (hf : statusWriteFail st = true) : s.judgeMarker st = s.markerAttemptFailed .statusFail :=
  if_pos hf

theorem State.judgeMarker_success (hf : statusWriteFail st = false) (hv : s.verify = false) :
    s.judgeMarker st = s.markerSuccess := by
  simp [State.judgeMarker, hf, hv]

theorem LinkOp.polls_iff : op.polls = true ↔ (∃ b, op = .program b) ∨ op = .markerWrite ∨ op = .directWrite ∨ op = .probe
    ∨ ∃ k, op = .settle k := by
  cases op <;> simp [LinkOp.polls]

end
end Sys2Proof.Machine

open Sys2Proof Sys2Proof.Machine

/-- Settles O28. -/
theorem writeIsEnabledWrittenAndPolled : Obligations.WriteIsEnabledWrittenAndPolled := by
  unfold Obligations.WriteIsEnabledWrittenAndPolled
  refine ⟨?_, fun s => ⟨fun op hw => ?_, fun hw => ?_⟩, fun m addr data => ⟨fun hb => ?_, fun hb => ?_⟩, fun s hr => ⟨?_, ?_, ?_⟩⟩
  · rintro op adr rfl
    refine ⟨?_, ?_, fun mdi => ⟨op.length_received mdi, fun i j hi hj => op.received_bit mdi hi hj⟩⟩
    · cases op with
      | readId => rfl
      | readStatus => rfl
      | writeEnable => rfl
      | pageWrite a data => rw [MemOp.sent, be24_ofNat]
      | readData a len => rw [MemOp.sent, be24_ofNat]
    · cases op <;> rfl
  · have hhigh (k : Nat) : s.mdoHigh k = wireBit op.sent k := by rw [State.mdoHigh, hw]; rfl
    refine ⟨by rw [State.mcsLow, hw]; rfl, by simp [State.mckHigh], by simp [State.mckHigh, hw], fun k => ⟨fun _ => ?_, fun h => ?_⟩⟩
    · rw [hhigh, wireBit_eq]
    · rw [hhigh, wireBit_behind _ _ h]
  · exact ⟨by rw [State.mcsLow, hw]; rfl, fun half => by simp [State.mckHigh, hw]⟩
  · exact ⟨m.writeEnable_eq.1 hb, SerialMemory.pageWrite_ignored (.inl hb)⟩
  · exact ⟨m.writeEnable_eq.2 hb, fun hw => SerialMemory.pageWrite_ignored (.inr hw), SerialMemory.pageWrite_starts hb⟩
  · intro page addr data charged hw hcase
    have hafter : ∃ t, t = (s.setLink s.link.wireDone).setMemory s.memory.writeEnable ∧ t.holderPage = some page
        ∧ t.holderWrite = some (addr, data) ∧ t.Charged charged := by
      refine ⟨_, rfl, ?_⟩
      rcases hcase with ⟨b, ⟨hold, rfl, rfl, rfl, rfl⟩ | ⟨hold, hpage, haddr, hdata, hcharged⟩⟩
      · exact ⟨State.holderPage_program (b := b) hold, State.holderWrite_program (b := b) hold, .inl ⟨⟨b, hold⟩, rfl⟩⟩
      · rw [hpage, haddr, hdata, hcharged]
        exact ⟨State.holderPage_markerWrite hold, State.holderWrite_markerWrite hold, .inr ⟨hold, rfl⟩⟩
    obtain ⟨t, rfl, hp, hwrite, hc⟩ := hafter
    rw [exec_writeEnableCompletion hr hw]
    exact ⟨fun hpin => by rw [State.issuePageWrite_pinned hp hwrite hpin]; rfl,
      fun hpin => by rw [State.issuePageWrite_charged hp hwrite rfl hpin hc]; rfl⟩
  · exact fun addr data hw => exec_pageWriteCompletion hr hw
  · intro hp hw
    rw [exec_pollIntervalExpiry hr hp, State.issue, Link.issue_free (by exact hw)]
    rfl

/-- Settles O29. -/
theorem statusIsPolledOn : Obligations.StatusIsPolledOn := by
  unfold Obligations.StatusIsPolledOn
  refine ⟨fun op => LinkOp.polls_iff, fun m st now => ⟨⟨rfl, rfl⟩, fun h => SerialMemory.sawStatus_same h now, ?_⟩,
    fun s st hr hw => ⟨fun hs => ?_, fun hs op hold hp => ⟨?_, ?_, ?_⟩⟩⟩
  · intro hb hs
    rw [SerialMemory.sawStatus_ends hb hs]
    exact m.endProgram_flags (statusWriteFail st) now
  · rw [exec_readStatusCompletion_stale hr hw hs]
    rfl
  · exact exec_readStatusCompletion_busy hr hw hs hold hp
  · exact fun hbusy hset hop => exec_readStatusCompletion_settled hr hw hs hold hset hop hbusy
  · refine fun hbusy hfail hset hv => ⟨?_, ?_⟩
    · rintro b rfl
      rw [exec_readStatusCompletion_program hr hw hs hold hset hbusy, State.judgeProgram_verify hfail (by exact hv)]
      rfl
    · rintro rfl
      rw [exec_readStatusCompletion_marker hr hw hs hold hset hbusy, State.judgeMarker_verify hfail (by exact hv)]
      rfl
end


section
/-! PROOF. The ends of a drain attempt: its failure with the three courses of 04 R83 and its success (04 R81 to R85;
07 R140, R141; O30, O31). -/
namespace Sys2Proof.Machine

section
variable {s t : State} {w : PortSet} {ok : Bool} {b : Buf} {r : FailReason} {c : Instr} {l : Link} {m : SerialMemory}

/-! ### What the waiters are told, next to changes of other blocks -/

theorem State.tellWaiters_eq (s : State) (w : PortSet) (ok : Bool) :
    s.tellWaiters w ok = s.setPorts (s.tellWaiters w ok).ports := by
  have h := congrArg (fun u : State => u.setPorts (s.tellWaiters w ok).ports) (s.tellWaiters_ports_only ok w)
  exact h

theorem State.tellWaiters_ports_congr (hp : t.ports = s.ports) (ha : t.active = s.active) :
    (t.tellWaiters w ok).ports = (s.tellWaiters w ok).ports := by
  have hport (p : Port) : (t.tellWaiters w ok).port p = (s.tellWaiters w ok).port p := by
    rw [State.tellWaiters_port, State.tellWaiters_port, State.port_congr hp p, State.fill_congr ha]
  have hboth : ∀ x y : Ports, x.a = y.a → x.b = y.b → x = y := fun x y ha hb => by cases x; cases y; simp_all
  exact hboth _ _ (hport .A) (hport .B)

/-- The ports are told from themselves and the fill value, whatever the rest of the state is. -/
theorem State.tellWaiters_of (hp : t.ports = s.ports) (ha : t.active = s.active) :
    t.tellWaiters w ok = t.setPorts (s.tellWaiters w ok).ports :=
  (t.tellWaiters_eq w ok).trans (congrArg t.setPorts (State.tellWaiters_ports_congr hp ha))

theorem State.tellWaiters_setLink (l : Link) : (s.setLink l).tellWaiters w ok = (s.tellWaiters w ok).setLink l :=
  calc (s.setLink l).tellWaiters w ok
    _ = (s.setLink l).setPorts (s.tellWaiters w ok).ports := State.tellWaiters_of rfl rfl
    _ = (s.setPorts (s.tellWaiters w ok).ports).setLink l := rfl
    _ = (s.tellWaiters w ok).setLink l := by rw [← State.tellWaiters_eq]

theorem State.tellWaiters_endProgram : s.endProgram.tellWaiters w ok = (s.tellWaiters w ok).endProgram :=
  calc s.endProgram.tellWaiters w ok
    _ = s.endProgram.setPorts (s.tellWaiters w ok).ports := State.tellWaiters_of rfl rfl
    _ = (s.setPorts (s.tellWaiters w ok).ports).endProgram := rfl
    _ = (s.tellWaiters w ok).endProgram := by rw [← State.tellWaiters_eq]

/-! ### A failed attempt (04 R79, R80, R83 to R85; 07 R141) -/

theorem exec_verifyRead_program {addr : Nat} {bytes : List Byte} (hr : s.rstn = true)
    (hold : s.link.holder = some (.program b)) (hv : (s.buf b).state = .verifying)
    (hw : s.link.wire = some (.readData addr bytes.length)) : exec (.verifyReadCompletion bytes) s
      = .next (if bytes == (s.buf b).spanBytes then (s.setLink s.link.wireDone).programSuccess b
          else (s.setLink s.link.wireDone).attemptFailed b .verifyMismatch).endEvent := by
  simp only [exec, execVerifyReadCompletion, hr, hold, hw, hv, beq_self_eq_true, Bool.and_self, if_true]

theorem exec_programTimerExpiry_program (hr : s.rstn = true) (hold : s.link.holder = some (.program b))
    (ht : s.link.programTimer.isSome = true) :
    exec .programTimerExpiry s = .next ((s.setLink s.link.timedOut).attemptFailed b .timeout).endEvent := by
  simp only [exec, execProgramTimerExpiry, hr, hold, ht, Bool.and_self, if_true]

/-- Whatever the command that ends it, a failed attempt is judged on the link and the memory that the command leaves. -/
theorem State.AttemptFails.exec_eq (h : s.AttemptFails b c r l m) :
    exec c s = .next (((s.setLink l).setMemory m).attemptFailed b r).endEvent := by
  cases h with
  | status st hp hbusy hfail =>
    rw [exec_readStatusCompletion_program hp.high hp.wire hp.judged hp.holder hp.written hbusy,
      State.judgeProgram_failed hfail]
    rfl
  | verify bytes hv hne =>
    obtain ⟨addr, hw⟩ := hv.wire
    rw [exec_verifyRead_program hv.high hv.holder hv.state hw, if_neg (by simpa using hne)]
    rfl
  | timer ht =>
    rw [exec_programTimerExpiry_program ht.high ht.holder ht.timer]
    rfl

theorem State.attemptFailed_retry (ha : (t.buf b).attempts < t.retryLimit)
    (hm : t.control.mode = .pfDrain → 2 ≤ t.control.budget) : t.attemptFailed b r
      = (t.countRetry.setBuf b { t.buf b with failure := some r }).startProgramAttempt b := by
  unfold State.attemptFailed
  dsimp only
  rw [State.setBuf_buf_same]
  have hlimit : ¬ (t.countRetry.setBuf b { t.buf b with failure := some r }).retryLimit ≤ (t.buf b).attempts := by
    rw [State.retryLimit_congr (s := t) (by simp)]
    omega
  have hbudget : ¬ (t.control.mode == .pfDrain && Decidable.decide (t.control.budget < Config.drainBudget)) = true := by
    simp only [Bool.and_eq_true, beq_iff_eq, decide_eq_true_eq, Config.drainBudget, not_and, Nat.not_lt]
    exact hm
  rw [if_neg hlimit]
  exact if_neg (by simpa using hbudget)

theorem State.attemptFailed_suspend (ha : (t.buf b).attempts < t.retryLimit) (hm : t.control.mode = .pfDrain)
    (hbudget : t.control.budget < 2) : t.attemptFailed b r = ((t.setLink t.link.freed).countRetry).setDrain
      { t.drain.setBuf b { t.buf b with state := .filled, failure := some r, retried := true } with partner := none } := by
  unfold State.attemptFailed
  dsimp only
  rw [State.setBuf_buf_same]
  have hlimit : ¬ (t.countRetry.setBuf b { t.buf b with failure := some r }).retryLimit ≤ (t.buf b).attempts := by
    rw [State.retryLimit_congr (s := t) (by simp)]
    omega
  rw [if_neg hlimit, if_pos (by simp [hm, hbudget])]
  cases b <;> rfl

theorem State.attemptFailed_final (ha : t.retryLimit ≤ (t.buf b).attempts) :
    t.attemptFailed b r = (t.countRetry.setBuf b { t.buf b with failure := some r }).finalFailure b r := by
  unfold State.attemptFailed
  dsimp only
  rw [State.setBuf_buf_same, if_pos]
  rw [State.retryLimit_congr (s := t) (by simp)]
  exact ha

theorem cond_eq_if (c : Bool) (x y : Byte) : (cond c x y) = if c then x else y := by cases c <;> rfl

theorem Buf.code_eq (b : Buf) : b.code = if b = .pb0 then 0 else 1 := by cases b <;> rfl

/-- Both buffers are HELD once the other one is. -/
theorem State.halted_of_held (h : (s.buf b).state = .held) : s.halted = true ↔ (s.buf b.other).state = .held := by
  rw [State.halted_iff]
  exact ⟨fun hall => hall b.other, fun ho c => by cases b <;> cases c <;> assumption⟩

/-- The final failure of an attempt: HELD, recorded, the waiters told, the link FREE; then HALTED and the end of an APPLY. -/
theorem State.finalFailure_course {u v : State}
    (hu : u = ((((t.setLink t.link.freed).countRetry).setDrain
      { t.drain.setBuf b { t.buf b with state := .held, failure := some r, waiters := {} } with partner := none }).addFault
        { kind := .programFailed, source := .drain, epoch := t.control.epoch, page := some (t.buf b).page,
          seq := some (t.buf b).firstSeq, retained := some true,
          detail := BitVec.ofNat 8 (t.buf b).attempts ||| (r.code <<< 3)
            ||| (if (t.buf b).waiters.a then 0x40 else 0) ||| (if (t.buf b).waiters.b then 0x80 else 0) }).tellWaiters
        (t.buf b).waiters false)
    (hv : v = (if (t.buf b.other).state = .held then u.addFault
      { kind := .drainHalted, source := .drain, epoch := t.control.epoch, page := some (t.buf b).page,
        detail := if b = .pb0 then 0 else 1 } else u)) :
    (t.countRetry.setBuf b { t.buf b with failure := some r }).finalFailure b r
      = if t.control.mode = .applying then (v.completeLong .abortedHeld [t.control.epoch]).changeMode .running else v := by
  have hended : u = ((((t.countRetry.setBuf b { t.buf b with state := .held, failure := some r, waiters := {} }).addFault
      { kind := .programFailed, source := .drain, epoch := t.control.epoch, page := some (t.buf b).page,
        seq := some (t.buf b).firstSeq, retained := some true,
        detail := (t.buf b).failDetail r }).tellWaiters (t.buf b).waiters false).endProgram) := by
    rw [← State.tellWaiters_endProgram, hu, PageBuffer.failDetail, cond_eq_if, cond_eq_if]
    cases b <;> rfl
  have hdrain : u.drain = { t.drain.setBuf b { t.buf b with state := .held, failure := some r, waiters := {} }
      with partner := none } := by
    rw [hu]
    simp
  have hheld : (u.buf b).state = .held := by
    rw [State.buf, hdrain]
    cases b <;> rfl
  have hother : u.buf b.other = t.buf b.other := by
    rw [State.buf, hdrain]
    cases b <;> rfl
  have hcontrol : v.control = t.control := by
    rw [hv, hu]
    split <;> simp
  have hhalted : v = if u.halted then u.addFault
      { kind := .drainHalted, source := .drain, epoch := t.control.epoch, page := some (t.buf b).page, detail := b.code }
      else u := by
    rw [hv, Buf.code_eq]
    exact (if_iff_congr (by rw [State.halted_of_held hheld, hother]) rfl rfl).symm
  have hfinal : (t.countRetry.setBuf b { t.buf b with failure := some r }).finalFailure b r = v.abortApplyHeld := by
    rw [hhalted, hended]
    unfold State.finalFailure
    rw [State.setBuf_buf_same]
    cases b <;> rfl
  rw [hfinal, State.abortApplyHeld, hcontrol]
  exact if_iff_congr beq_iff_eq rfl rfl

/-! ### A successful attempt (04 R81, R82; 07 R140) -/

theorem State.AttemptSucceeds.exec_eq (h : s.AttemptSucceeds b c l m) :
    exec c s = .next (((s.setLink l).setMemory m).programSuccess b).endEvent := by
  cases h with
  | status st hp hbusy hfail hv =>
    rw [exec_readStatusCompletion_program hp.high hp.wire hp.judged hp.holder hp.written hbusy,
      State.judgeProgram_success hfail (by exact hv)]
    rfl
  | verify hv =>
    obtain ⟨addr, hw⟩ := hv.wire
    rw [exec_verifyRead_program hv.high hv.holder hv.state hw, if_pos (by simp)]
    rfl

/-- The state once its waiters have been told, with the link FREE. -/
def State.programmed (t : State) (b : Buf) : State :=
  ((t.setLink t.link.freed).countPageWrite).tellWaiters (t.buf b).waiters true

theorem State.programmed_eq : t.programmed b
    = ((t.countPageWrite.tellWaiters (t.buf b).waiters true).setLink t.link.freed) :=
  State.tellWaiters_setLink (s := t.countPageWrite) t.link.freed

theorem State.supersede_none (h : s.drain.partner = none) : s.supersede b = s := by
  unfold State.supersede
  rw [h]

theorem State.supersede_left {o : Buf} {left : List Host.Cell} (h : s.drain.partner = some o)
    (hleft : left = cellsOutside (s.buf o).bytes (cellsFirst (s.buf b).bytes) (cellsLast (s.buf b).bytes)) (hne : left ≠ []) :
    s.supersede b = s.setBuf o { s.buf o with bytes := left } := by
  unfold State.supersede
  rw [h]
  dsimp only
  rw [← hleft, if_neg fun he => hne (List.isEmpty_iff.mp he)]

theorem State.supersede_emptied {o : Buf} (h : s.drain.partner = some o)
    (hleft : cellsOutside (s.buf o).bytes (cellsFirst (s.buf b).bytes) (cellsLast (s.buf b).bytes) = []) :
    s.supersede b = ((s.setBuf o .freed).tellWaiters (s.buf o).waiters true).addFault
      { kind := .heldSuperseded, source := .drain, epoch := s.control.epoch, page := some (s.buf o).page,
        retained := some false, detail := o.code } := by
  unfold State.supersede
  rw [h]
  dsimp only
  rw [hleft]
  rfl

theorem State.programSuccess_judged (t : State) (b : Buf) : t.programSuccess b
    = ((((t.countPageWrite.tellWaiters (t.buf b).waiters true).supersede b).setBuf b .freed).endProgram).judgeApply := rfl

theorem State.programmed_drain : (t.countPageWrite.tellWaiters (t.buf b).waiters true).drain = t.drain := by simp

theorem State.programmed_link : (t.countPageWrite.tellWaiters (t.buf b).waiters true).link = t.link := by simp

theorem State.endProgram_setBuf (x y : PageBuffer) : ((s.setBuf b.other y).setBuf b x).endProgram
    = (s.setLink s.link.freed).setDrain { (s.drain.setBuf b x).setBuf b.other y with partner := none } := by
  cases b <;> rfl

theorem State.programSuccess_alone (h : t.drain.partner = none) :
    t.programSuccess b = ((t.programmed b).setDrain (t.drain.setBuf b {})).judgeApply := by
  have hmark : { t.drain.setBuf b {} with partner := none } = t.drain.setBuf b {} := by
    cases hd : t.drain
    rw [hd] at h
    cases b <;> simp_all [Drain.setBuf]
  have hended (u : State) : (u.setBuf b .freed).endProgram
      = (u.setLink u.link.freed).setDrain { u.drain.setBuf b {} with partner := none } := rfl
  rw [State.programSuccess_judged, State.supersede_none (by rw [State.programmed_drain]; exact h), hended,
    State.programmed_drain, State.programmed_link, State.programmed_eq, hmark]

theorem State.programSuccess_left {left : List Host.Cell} (h : t.drain.partner = some b.other)
    (hleft : left = cellsOutside (t.buf b.other).bytes (cellsFirst (t.buf b).bytes) (cellsLast (t.buf b).bytes))
    (hne : left ≠ []) : t.programSuccess b = ((t.programmed b).setDrain
      { (t.drain.setBuf b {}).setBuf b.other { t.buf b.other with bytes := left } with partner := none }).judgeApply := by
  have hsame (c : Buf) : (t.countPageWrite.tellWaiters (t.buf b).waiters true).buf c = t.buf c :=
    congrArg (Drain.buf · c) State.programmed_drain
  rw [State.programSuccess_judged, State.supersede_left (o := b.other) (left := left) (by rw [State.programmed_drain]; exact h)
    (by rw [hsame, hsame]; exact hleft) hne, State.endProgram_setBuf, hsame, State.programmed_drain, State.programmed_link,
    State.programmed_eq]
  rfl

theorem State.programSuccess_emptied (h : t.drain.partner = some b.other)
    (hleft : cellsOutside (t.buf b.other).bytes (cellsFirst (t.buf b).bytes) (cellsLast (t.buf b).bytes) = []) :
    t.programSuccess b = ((((t.programmed b).setDrain
      { (t.drain.setBuf b {}).setBuf b.other {} with partner := none }).tellWaiters (t.buf b.other).waiters true).addFault
      { kind := .heldSuperseded, source := .drain, epoch := t.control.epoch, page := some (t.buf b.other).page,
        retained := some false, detail := if b.other = .pb0 then 0 else 1 }).judgeApply := by
  have hsame (c : Buf) : (t.countPageWrite.tellWaiters (t.buf b).waiters true).buf c = t.buf c :=
    congrArg (Drain.buf · c) State.programmed_drain
  have hepoch : (t.countPageWrite.tellWaiters (t.buf b).waiters true).control.epoch = t.control.epoch := by simp
  have hended (u : State) (w : PortSet) (f : FaultRecord) :
      ((((u.setBuf b.other .freed).tellWaiters w true).addFault f).setBuf b .freed).endProgram
      = (((u.setLink u.link.freed).setDrain
          { (u.drain.setBuf b {}).setBuf b.other {} with partner := none }).tellWaiters w true).addFault f := by
    rw [State.tellWaiters_of (s := u) (t := u.setBuf b.other .freed) (by cases b <;> rfl) (by cases b <;> rfl),
      State.tellWaiters_of (s := u) (t := (u.setLink u.link.freed).setDrain _) rfl rfl]
    cases b <;> rfl
  rw [State.programSuccess_judged, State.supersede_emptied (o := b.other) (by rw [State.programmed_drain]; exact h)
    (by rw [hsame, hsame]; exact hleft), hended, hsame, hepoch, State.programmed_drain, State.programmed_link,
    State.programmed_eq, Buf.code_eq]

theorem State.judgeApply_eq : s.judgeApply
    = if s.control.mode = .applying ∧ s.nothingRetained = true then s.completeApply else s :=
  if_iff_congr (by rw [Bool.and_eq_true, beq_iff_eq]) rfl rfl

end
end Sys2Proof.Machine

open Sys2Proof Sys2Proof.Machine

/-- Settles O30: the three courses by the attempts made and, in PF_DRAIN, by the budget. -/
theorem failedAttemptTakesItsCourse : Obligations.FailedAttemptTakesItsCourse := by
  unfold Obligations.FailedAttemptTakesItsCourse
  refine ⟨fun r => by cases r <;> rfl, fun s u v w b c r l m h => ?_⟩
  rw [h.exec_eq]
  refine ⟨fun ha hm => ?_, fun ha hm hbudget => ?_, fun ha hu hv hw => ?_⟩
  · rw [State.attemptFailed_retry (by exact ha) (by exact hm)]
    rfl
  · rw [State.attemptFailed_suspend (by exact ha) (by exact hm) (by exact hbudget)]
    rfl
  · rw [State.attemptFailed_final (by exact ha), State.finalFailure_course (t := (s.setLink l).setMemory m) hu hv, hw]
    rfl

/-- Settles O31: without a partner, with a partner that keeps bytes outside the span, and with one that the span empties. -/
theorem successFreesBuffer : Obligations.SuccessFreesBuffer := by
  unfold Obligations.SuccessFreesBuffer
  refine ⟨cellsGet_outside, ?_⟩
  rintro s u v b c l m left h hleft rfl hv
  have hjudged : ((s.setLink l).setMemory m).programSuccess b = v.judgeApply := by
    rcases hv with ⟨hp, rfl⟩ | ⟨hp, hne, rfl⟩ | ⟨hp, hnil, rfl⟩
    · exact State.programSuccess_alone hp
    · exact State.programSuccess_left hp hleft hne
    · exact State.programSuccess_emptied hp (hleft.symm.trans hnil)
  rw [h.exec_eq, hjudged, State.judgeApply_eq]
end


section
/-! PROOF. The DIRECT-WRITE and its runs, the waits of the link, and the direct operations from their tests to their
results (05 R97 to R111; 06 R118 to R124; 10 R191, R192; O33 to O36). -/
namespace Sys2Proof.Machine

section
variable {s : State} {k : ReqKind} {op : LinkOp} {st : Byte}

/-! ### The grant of a DIRECT-WRITE (06 R123) -/

theorem State.requestOf_directWrite (h : s.requestOf k = some .directWrite) : s.maint.direct.waiting = true := by
  cases k with
  | fetch => obtain ⟨f, -, hop⟩ := Option.map_eq_some_iff.mp h; cases hop
  | drain => obtain ⟨b, -, hop⟩ := Option.map_eq_some_iff.mp h; cases hop
  | control => rcases State.requestOf_control.mp h with ⟨-, hop⟩ | ⟨-, hop⟩ | ⟨-, hop⟩ <;> cases hop
  | direct => exact (State.requestOf_direct.mp h).1

/-- Without a DIRECT-WRITE that waits, one decision is all that an event makes. -/
theorem State.decide_once (hh : s.link.holder = none) (hw : s.maint.direct.waiting = false) : s.decide = s.decideOnce := by
  cases hc : s.chosen with
  | none => rw [State.decide_none hc, State.decideOnce_none hc]
  | some choice =>
    obtain ⟨k, op⟩ := choice
    have hop : op ≠ .directWrite := by
      rintro rfl
      have := State.requestOf_directWrite (State.chosen_request hc).2
      rw [hw] at this
      cases this
    by_cases hq : op.needsQuiet = false ∨ s.link.quiet = true
    · rw [State.decide_grant hh hc hq (.inl hop), State.decideOnce_grant hh hc hq]
    · obtain ⟨hn, hq⟩ := not_or.mp hq
      rw [Bool.not_eq_false] at hn
      rw [Bool.not_eq_true] at hq
      rw [State.decide_settle hh hc hn hq, State.decideOnce_settle hh hc hn hq]

/-- The link and the direct operation at the grant of a DIRECT-WRITE. -/
def State.takenDirect (s : State) : State :=
  (s.setMaint { s.maint with direct := { s.maint.direct with waiting := false } }).setLink
    { s.link with holder := some .directWrite }

theorem State.grant_directWrite_conflict (h : s.directConflict = true) : s.grant .directWrite
    = (s.takenDirect.setLink s.takenDirect.link.freed).completeLong .conflict [0, 0] := by
  rw [State.grant, State.grantDirectWrite, if_pos h]
  rfl

theorem State.grant_directWrite_first (h : s.directConflict = false)
    (hp : s.pinned (pageOfLine s.maint.direct.line.toNat) = false) :
    s.grant .directWrite = s.takenDirect.issue .writeEnable := by
  have hpage : s.takenDirect.holderPage = some (pageOfLine s.maint.direct.line.toNat) :=
    State.holderPage_directWrite (s := s.takenDirect) rfl
  rw [State.grant, State.grantDirectWrite, h, if_neg (by decide)]
  refine (State.enableOrPin_eq hpage).trans (if_neg ?_)
  rw [Bool.not_eq_true]
  exact hp

/-- A CONFLICT frees the link at once, and the arbiter decides afresh. -/
theorem exec_arbiterDecision_conflict (hr : s.rstn = true) (hh : s.link.holder = none) (hq : s.link.quiet = true)
    (hc : s.chosen = some (.direct, .directWrite)) (h : s.directConflict = true) :
    exec .arbiterDecision s = exec .arbiterDecision (s.grant .directWrite) := by
  have hgrant := State.grant_directWrite_conflict h
  have hafter : (s.grant .directWrite).decide = (s.grant .directWrite).decideOnce :=
    State.decide_once (by rw [hgrant]; rfl) (by rw [hgrant]; rfl)
  rw [exec_arbiterDecision hr, exec_arbiterDecision (s := s.grant .directWrite) (by rw [hgrant]; exact hr), hafter,
    State.decide, State.decideOnce_grant hh hc (.inr hq)]

/-! ### The runs of a DIRECT-WRITE (06 R124) -/

section
variable {start len : Nat} (hold : s.link.holder = some .directWrite)
include hold

theorem State.holderWrite_directWrite (hrun : (directRuns s.maint.direct.flags)[s.maint.direct.written]? = some (start, len)) :
    s.holderWrite = some (s.maint.direct.line.toNat * 32 + start, (s.maint.direct.data.drop start).take len) := by
  unfold State.holderWrite
  rw [hold]
  simp [Direct.nextRun, hrun, Config.lineBytes]

theorem State.chargePageWrite_run : s.chargePageWrite = s := by
  unfold State.chargePageWrite
  rw [hold]
  simp

theorem State.countRunIssued_run : s.countRunIssued
    = s.setMaint { s.maint with direct := { s.maint.direct with issued := s.maint.direct.issued + 1 } } := by
  unfold State.countRunIssued
  exact if_pos (by simp [hold])

/-- A run's PAGE-WRITE is issued on an idle wire and counted. -/
theorem State.issuePageWrite_run (hrun : (directRuns s.maint.direct.flags)[s.maint.direct.written]? = some (start, len))
    (hidle : s.link.wire = none) (hp : s.pinned (pageOfLine s.maint.direct.line.toNat) = false) : s.issuePageWrite
    = (s.setLink { s.link with wire := some (.pageWrite (s.maint.direct.line.toNat * 32 + start)
        ((s.maint.direct.data.drop start).take len)) }).setMaint
      { s.maint with direct := { s.maint.direct with issued := s.maint.direct.issued + 1 } } := by
  have hissued (m : MemOp) : (s.issue m).link.holder = some .directWrite := by rw [State.issue_holder, hold]
  rw [State.issuePageWrite_free (State.holderPage_directWrite hold) (State.holderWrite_directWrite hold hrun) hp,
    State.chargePageWrite_run (hissued _), State.countRunIssued_run (hissued _), State.issue, Link.issue_free hidle]
  rfl

theorem exec_programTimerExpiry_run (hr : s.rstn = true) (ht : s.link.programTimer.isSome = true) :
    exec .programTimerExpiry s
      = .next ((s.setLink s.link.timedOut).endDirect .timedOut s.maint.direct.runData).endEvent := by
  simp only [exec, execProgramTimerExpiry, hr, hold, ht, Bool.and_self, if_true]
  rfl

end

theorem State.judgeRun_failed (h : statusWriteFail st = true) :
    s.judgeRun st = s.endDirect .memFail s.maint.direct.runData := if_pos h

theorem Direct.nextRun_isSome (d : Direct) : d.nextRun.isSome = true ↔ d.written < (directRuns d.flags).length := by
  simp [Direct.nextRun]

/-- A run that the memory has written leads to the next run's WRITE-ENABLE, or is the last one. -/
theorem State.judgeRun_written {v : State} (h : statusWriteFail st = false)
    (hv : v = s.setMaint { s.maint with direct := { s.maint.direct with written := s.maint.direct.written + 1 } }) :
    s.judgeRun st = if s.maint.direct.written + 1 < (directRuns s.maint.direct.flags).length then v.enableOrPin
      else v.endDirect .ok v.maint.direct.runData := by
  unfold State.judgeRun
  rw [if_neg (by simp [h])]
  dsimp only
  rw [hv]
  exact if_iff_congr (Direct.nextRun_isSome _) rfl rfl

/-! ### The ends of a SETTLE and of a pin wait (05 R101, R109; 08 R162) -/

theorem exec_settleLimitExpiry (hr : s.rstn = true) (hold : s.link.holder = some (.settle k)) (ht : s.link.settleTimer = true) :
    exec .settleLimitExpiry s = .next ((s.setLink s.link.abandon).settleDone k).endEvent := by
  simp only [exec, execSettleLimitExpiry, hr, hold, ht, Bool.and_self]

theorem State.settleDone_eq : s.settleDone k
    = if s.control.mode = .starting ∧ s.control.stopPending = true ∧ k = .control
      then (s.setLink s.link.freed).changeMode .pfDone else s.setLink s.link.freed := by
  refine if_iff_congr ?_ rfl rfl
  simp [and_assoc]

theorem exec_readStatusCompletion_settle (hr : s.rstn = true) (hw : s.link.wire = some .readStatus)
    (hs : s.link.stale = false) (hold : s.link.holder = some (.settle k)) (hb : statusBusy st = false) :
    exec (.readStatusCompletion st) s = .next ((s.sawStatus st).settleDone k).endEvent := by
  rw [exec_readStatusCompletion_judged hr hw hs hold rfl, State.judgeStatus, if_neg (by simp [hb])]

theorem State.endPinWait_eq {page : Nat} (hp : s.holderPage = some page) (hw : s.link.pinWait = true) : s.endPinWait
    = if s.pinned page = false then (s.setLink { s.link with pinWait := false }).issue .writeEnable else s := by
  unfold State.endPinWait
  rw [hp]
  exact if_iff_congr (by simp [hw]) rfl rfl

theorem exec_pinWaitEnd (hr : s.rstn = true) : exec .pinWaitEnd s = .next s.endPinWait := by
  simp only [exec, execPinWaitEnd, hr, if_true]

/-! ### The ends of the direct reads (06 R120 to R122; 05 R111) -/

theorem exec_directIdCompletion (b0 b1 b2 : Byte) (hr : s.rstn = true) (hs : s.link.stale = false)
    (hold : s.link.holder = some .directId) (hw : s.link.wire = some .readId) : exec (.directIdCompletion b0 b1 b2) s
      = .next ((s.setLink s.link.wireDone).endDirect .ok [b0, b1, b2]).endEvent := by
  simp only [exec, execDirectIdCompletion, hr, hs, hold, hw, beq_self_eq_true, Bool.not_false, Bool.and_self, if_true]

theorem exec_directStatusCompletion (hr : s.rstn = true) (hs : s.link.stale = false)
    (hold : s.link.holder = some .directStatus) (hw : s.link.wire = some .readStatus) :
    exec (.directStatusCompletion st) s = .next ((s.sawStatus st).endDirect .ok [st]).endEvent := by
  simp only [exec, execDirectStatusCompletion, hr, hs, hold, hw, beq_self_eq_true, Bool.not_false, Bool.and_self, if_true]

theorem exec_directReadCompletion {addr : Nat} {bytes : List Byte} (hr : s.rstn = true)
    (hold : s.link.holder = some .directRead) (hw : s.link.wire = some (.readData addr bytes.length)) :
    exec (.directReadCompletion bytes) s = .next ((s.setLink s.link.wireDone).endDirect .ok bytes).endEvent := by
  simp only [exec, execDirectReadCompletion, hr, hold, hw, beq_self_eq_true, if_true]

theorem exec_directWaitLimitExpiry (hr : s.rstn = true) (hw : s.maint.direct.waiting = true) :
    exec .directWaitLimitExpiry s = .next ((s.setMaint
      { s.maint with direct := { s.maint.direct with waiting := false } }).completeLong .timedOut []).endEvent := by
  simp only [exec, execDirectWaitLimitExpiry, hr, hw, Bool.and_self, if_true]

end

/-! ### The tests of a direct operation (06 R118; 10 R191) -/

section
variable {s : State} {c : Instr} {k : LongKind} {line : BitVec 24} {flags : BitVec 32} {data : List Byte}

/-- The response of the first test that a direct operation does not pass. -/
def State.directTest (s : State) (line : BitVec 24) (flags : BitVec 32) : LongKind → Option Byte
  | .directRead => (s.slotTest.or s.directModeTest).or (s.lineTest line)
  | .directWrite => ((s.slotTest.or s.directModeTest).or (s.lineTest line)).or (s.writeTest line flags)
  | .idle | .apply | .flush | .directId | .directStatus => s.slotTest.or s.directModeTest

theorem AsksDirect.refused {code : Byte} (h : AsksDirect c k line flags data) (ht : s.takesFrames = true)
    (hcode : s.directTest line flags k = some code) : exec c s = .next (s.respond code []) := by
  cases h with
  | id =>
    have htests : s.slotTest.or s.directModeTest = some code := hcode
    simp only [exec, execDirectId, ht, htests, if_true]
  | status =>
    have htests : s.slotTest.or s.directModeTest = some code := hcode
    simp only [exec, execDirectStatus, ht, htests, if_true]
  | read =>
    have htests : (s.slotTest.or s.directModeTest).or (s.lineTest line) = some code := hcode
    simp only [exec, execDirectRead, ht, htests, if_true]
  | write =>
    have htests : ((s.slotTest.or s.directModeTest).or (s.lineTest line)).or (s.writeTest line flags) = some code := hcode
    simp only [exec, execDirectWrite, ht, htests, if_true]

theorem AsksDirect.accepted (h : AsksDirect c k line flags data) (ht : s.takesFrames = true)
    (hcode : s.directTest line flags k = none) : exec c s = .next (s.acceptDirect k line flags data).endEvent := by
  cases h with
  | id =>
    have htests : s.slotTest.or s.directModeTest = none := hcode
    simp only [exec, execDirectId, ht, htests, if_true]
  | status =>
    have htests : s.slotTest.or s.directModeTest = none := hcode
    simp only [exec, execDirectStatus, ht, htests, if_true]
  | read =>
    have htests : (s.slotTest.or s.directModeTest).or (s.lineTest line) = none := hcode
    simp only [exec, execDirectRead, ht, htests, if_true]
  | write =>
    have htests : ((s.slotTest.or s.directModeTest).or (s.lineTest line)).or (s.writeTest line flags) = none := hcode
    simp only [exec, execDirectWrite, ht, htests, if_true]

theorem State.slotTest_busy (h : s.maint.slot ≠ .idle) : s.slotTest = some 0x01 := if_pos (by simpa using h)

theorem State.slotTest_unread (h : s.maint.slot = .idle) (hr : s.maint.ready = true) : s.slotTest = some 0x02 := by
  simp [State.slotTest, h, hr, respUnread]

theorem State.slotTest_none (h : s.maint.slot = .idle) (hr : s.maint.ready = false) : s.slotTest = none := by
  simp [State.slotTest, h, hr]

theorem State.directModeTest_refused (h : s.control.mode ≠ .running) (h' : s.control.mode ≠ .failed) :
    s.directModeTest = some 0x03 := by
  simp [State.directModeTest, h, h', respRefusedMode]

theorem State.directModeTest_none (h : s.control.mode = .running ∨ s.control.mode = .failed) : s.directModeTest = none := by
  rcases h with h | h <;> simp [State.directModeTest, h]

theorem State.lineTest_above (h : s.memoryBytes ≤ line.toNat * 32) : s.lineTest line = some 0x05 := if_pos h

theorem State.lineTest_none (h : line.toNat * 32 < s.memoryBytes) : s.lineTest line = none := if_neg (Nat.not_le.mpr h)

theorem State.writeTest_protected (h : pageOfLine line.toNat = s.markerPage) : s.writeTest line flags = some 0x07 := if_pos h

theorem State.writeTest_noFlag (h : pageOfLine line.toNat ≠ s.markerPage) (hf : flags = 0) :
    s.writeTest line flags = some 0x05 := (if_neg h).trans (if_pos hf)

theorem State.writeTest_none (h : pageOfLine line.toNat ≠ s.markerPage) (hf : flags ≠ 0) : s.writeTest line flags = none :=
  (if_neg h).trans (if_neg hf)

/-- The first test that fails answers for every operation that makes it. -/
theorem State.directTest_slot {code : Byte} (h : s.slotTest.or s.directModeTest = some code) :
    s.directTest line flags k = some code := by
  cases k with
  | directRead => rw [State.directTest, h]; rfl
  | directWrite => rw [State.directTest, h]; rfl
  | idle | apply | flush | directId | directStatus => exact h

section
variable (hslot : s.maint.slot = .idle) (hready : s.maint.ready = false)
  (hm : s.control.mode = .running ∨ s.control.mode = .failed)
include hslot hready hm

theorem State.slotAndMode_none : s.slotTest.or s.directModeTest = none := by
  rw [State.slotTest_none hslot hready, State.directModeTest_none hm]
  rfl

theorem State.directTest_line (hk : k = .directRead ∨ k = .directWrite) (hline : s.memoryBytes ≤ line.toNat * 32) :
    s.directTest line flags k = some 0x05 := by
  rcases hk with rfl | rfl
  · rw [State.directTest, State.slotAndMode_none hslot hready hm, State.lineTest_above hline]; rfl
  · rw [State.directTest, State.slotAndMode_none hslot hready hm, State.lineTest_above hline]; rfl

theorem State.directTest_write (hline : line.toNat * 32 < s.memoryBytes) :
    s.directTest line flags .directWrite = s.writeTest line flags := by
  rw [State.directTest, State.slotAndMode_none hslot hready hm, State.lineTest_none hline]
  rfl

theorem State.directTest_ok (hargs : s.directArgsOk k line flags) : s.directTest line flags k = none := by
  have hnone := State.slotAndMode_none hslot hready hm
  cases k with
  | directRead =>
    rw [State.directTest, hnone, State.lineTest_none hargs]
    rfl
  | directWrite =>
    obtain ⟨hline, hpage, hflags⟩ := hargs
    rw [State.directTest_write hslot hready hm hline, State.writeTest_none hpage hflags]
  | idle | apply | flush | directId | directStatus => exact hnone

end

end

end Sys2Proof.Machine

open Sys2Proof Sys2Proof.Machine

/-- Settles O33: the runs as `mem_directRuns` gives them, the grant by its conflict check, and the ends of a run. -/
theorem directWriteRuns : Obligations.DirectWriteRuns := by
  unfold Obligations.DirectWriteRuns
  refine ⟨fun flags => ⟨fun start len => ?_, directRuns_pairwise flags, fun h => ?_⟩, ?_, fun s hr hold => ⟨?_, ?_, ?_, ?_⟩⟩
  · rw [mem_directRuns]
    exact ⟨fun h => ⟨h.nonempty, h.high, h.flagged, h.before, h.behind⟩,
      fun ⟨hne, hhigh, hflag, hbefore, hbehind⟩ => ⟨hne, Nat.zero_le _, hhigh, hflag, hbefore, hbehind⟩⟩
  · exact ⟨List.length_pos_iff.mpr (directRuns_ne_nil h), length_directRuns_le flags⟩
  · rintro s u page rfl rfl
    refine ⟨fun hheld => ?_, fun hqueue hbufs hpin => ?_⟩
    · have hconflict : s.directConflict = true := State.directConflict_iff.mpr hheld
      exact ⟨State.grant_directWrite_conflict hconflict,
        fun hr hh hq hc => exec_arbiterDecision_conflict hr hh hq hc hconflict⟩
    · refine State.grant_directWrite_first ?_ hpin
      rw [← Bool.not_eq_true, State.directConflict_iff]
      rintro (⟨e, he, hpage⟩ | ⟨b, hb, hpage⟩)
      · exact hqueue e he hpage
      · exact (hbufs b).elim hb fun h => h hpage
  · rintro start len page hw hrun rfl hpin
    rw [exec_writeEnableCompletion hr hw, State.issuePageWrite_run (by exact hold) (by exact hrun) rfl (by exact hpin)]
    rfl
  · rintro start len page hw hrun rfl hpin
    rw [exec_writeEnableCompletion hr hw, State.issuePageWrite_pinned (State.holderPage_directWrite (by exact hold))
      (State.holderWrite_directWrite (by exact hold) (by exact hrun)) (by exact hpin)]
    rfl
  · rintro st u hw hs hb rfl
    rw [exec_readStatusCompletion_run hr hw hs hold hb]
    refine ⟨fun hfail => ?_, ?_⟩
    · rw [State.judgeRun_failed hfail]
      rfl
    · rintro hfail v rfl
      rw [State.judgeRun_written (s := s.quieted st) hfail rfl]
      refine ⟨fun hlt => ?_, fun hle => ?_⟩
      · rw [if_pos (by exact hlt)]
        rfl
      · rw [if_neg (by exact Nat.not_lt.mpr hle)]
        rfl
  · intro ht
    rw [exec_programTimerExpiry_run hold hr ht]
    rfl

/-- Settles O34. -/
theorem linkWaitsEnd : Obligations.LinkWaitsEnd := by
  unfold Obligations.LinkWaitsEnd
  refine fun s hr => ⟨?_, fun page hp hw => ⟨fun hpin => ?_, fun hpin => ?_⟩⟩
  · rintro k c u hold (⟨ht, rfl, rfl⟩ | ⟨st, hw, hs, hb, rfl, rfl⟩)
    · rw [exec_settleLimitExpiry hr hold ht, State.settleDone_eq]
      rfl
    · rw [exec_readStatusCompletion_settle hr hw hs hold hb, State.settleDone_eq, State.sawStatus_done hb]
      rfl
  · rw [exec_pinWaitEnd hr, State.endPinWait_eq hp hw, if_neg (by simp [hpin])]
  · rw [exec_pinWaitEnd hr, State.endPinWait_eq hp hw, if_pos hpin]

/-- Settles O35. -/
theorem directOperationsComplete : Obligations.DirectOperationsComplete := by
  unfold Obligations.DirectOperationsComplete
  refine ⟨fun m code data => rfl, fun s code data => rfl, fun s hr => ⟨?_, ?_, ?_, ?_, ?_⟩⟩
  · rintro op m (⟨rfl, rfl⟩ | ⟨rfl, rfl⟩ | ⟨rfl, rfl⟩) <;> rfl
  · intro b0 b1 b2 hs hold hw
    rw [exec_directIdCompletion b0 b1 b2 hr hs hold hw]
    rfl
  · intro st hs hold hw
    rw [exec_directStatusCompletion hr hs hold hw]
    rfl
  · intro addr bytes hold hw
    rw [exec_directReadCompletion hr hold hw]
    rfl
  · exact exec_directWaitLimitExpiry hr

/-- Settles O36: each clause is the first test that fails. -/
theorem directOperationsAreTested : Obligations.DirectOperationsAreTested := by
  unfold Obligations.DirectOperationsAreTested
  intro s c k line flags data h ht
  refine ⟨fun hslot => ?_, fun hslot hready => ?_, fun hslot hready hrun hfail => ?_, fun hslot hready hm =>
    ⟨fun hk hline => ?_, fun hk hline => ⟨fun hpage => ?_, fun hpage hflags => ?_⟩, fun hargs => ?_⟩⟩
  · exact h.refused ht (State.directTest_slot (by rw [State.slotTest_busy hslot]; rfl))
  · exact h.refused ht (State.directTest_slot (by rw [State.slotTest_unread hslot hready]; rfl))
  · exact h.refused ht (State.directTest_slot (by
      rw [State.slotTest_none hslot hready, State.directModeTest_refused hrun hfail]; rfl))
  · exact h.refused ht (State.directTest_line hslot hready hm hk hline)
  · subst hk
    exact h.refused ht ((State.directTest_write hslot hready hm hline).trans (State.writeTest_protected hpage))
  · subst hk
    exact h.refused ht ((State.directTest_write hslot hready hm hline).trans (State.writeTest_noFlag hpage hflags))
  · rw [h.accepted ht (State.directTest_ok hslot hready hm hargs)]
    rfl
end


section
/-! PROOF. HELD buffers, the tests of APPLY and the FLUSH (06 R113, R115; 07 R136 to R138, R144 to R146; O37, O38, O40,
O42). -/
namespace Sys2Proof.Machine

/-! ### The lines of a buffer, each once (04 R66) -/

theorem mem_distinct {a : Nat} {l : List Nat} : a ∈ distinct l ↔ a ∈ l := by
  induction l with
  | nil => rfl
  | cons x l ih =>
    change a ∈ (if (distinct l).contains x then distinct l else x :: distinct l) ↔ _
    rw [List.mem_cons, ← ih]
    split
    · rename_i hin
      have hx : x ∈ distinct l := by simpa using hin
      exact ⟨.inr, fun h => h.elim (fun he => he ▸ hx) id⟩
    · exact List.mem_cons

theorem nodup_distinct (l : List Nat) : (distinct l).Nodup := by
  induction l with
  | nil => exact List.nodup_nil
  | cons x l ih =>
    change (if (distinct l).contains x then distinct l else x :: distinct l).Nodup
    split
    · exact ih
    · rename_i hout
      exact List.nodup_cons.mpr ⟨by simpa using hout, ih⟩

theorem PageBuffer.nodup_lines (x : PageBuffer) : x.lines.Nodup := by
  unfold PageBuffer.lines
  split
  · exact List.nodup_nil
  · exact nodup_distinct _

theorem PageBuffer.mem_lines {x : PageBuffer} {l : Nat} : l ∈ x.lines ↔ x.Carries l := by
  unfold PageBuffer.lines PageBuffer.Carries
  split
  · rename_i h
    exact ⟨nofun, fun hcarries => absurd (beq_iff_eq.mp h) hcarries.1⟩
  · rename_i h
    simp only [mem_distinct, List.mem_map, lineOf, Config.lineBytes, eq_comm (b := l)]
    exact (and_iff_right (by simpa using h)).symm

section
variable {s : State} {arg : Byte} {b : Buf}

/-! ### The judgement against the mark (07 R145) -/

theorem State.entryJudged_iff {e : Entry} : s.entryJudged e = true ↔ s.Judged e.firstSeq := decide_eq_true_iff

theorem State.bufJudged_iff {x : PageBuffer} : s.bufJudged x = true ↔ x.state ≠ .free ∧ s.Judged x.firstSeq := by
  rw [State.bufJudged, Bool.and_eq_true, bne_iff_ne]
  exact and_congr_right fun _ => decide_eq_true_iff

/-! ### RETRY-HELD and RELEASE-HELD (06 R113, R115) -/

theorem bufArg_none (h0 : arg ≠ 0) (h1 : arg ≠ 1) : bufArg arg = none := (if_neg h0).trans (if_neg h1)

theorem bufArg_some (h : arg = 0 ∧ b = .pb0 ∨ arg = 1 ∧ b = .pb1) : bufArg arg = some b := by
  rcases h with ⟨rfl, rfl⟩ | ⟨rfl, rfl⟩ <;> rfl

section
variable (ht : s.takesFrames = true)
include ht

theorem exec_retryHeld_invalid (h : bufArg arg = none) : exec (.retryHeld arg) s = .next (s.respond respInvalid []) := by
  simp only [exec, execRetryHeld, ht, h, if_true]

theorem exec_retryHeld (h : bufArg arg = some b) : exec (.retryHeld arg) s
    = .next (if (s.buf b).state = .held then ((s.retryBuffer b).respond respOk []).endEvent
        else s.respond respNoHeld []) := by
  simp only [exec, execRetryHeld, ht, h, if_true, beq_iff_eq]

theorem exec_releaseHeld_invalid (h : bufArg arg = none) :
    exec (.releaseHeld arg) s = .next (s.respond respInvalid []) := by
  simp only [exec, execReleaseHeld, ht, h, if_true]

theorem exec_releaseHeld (h : bufArg arg = some b) : exec (.releaseHeld arg) s
    = .next (if (s.buf b).state = .held
        then ((s.releaseBuffer b).respond respOk [BitVec.ofNat 8 (s.buf b).lines.length]).endEvent
        else s.respond respNoHeld []) := by
  simp only [exec, execReleaseHeld, ht, h, if_true, beq_iff_eq]

end

/-- The part after a release, before an APPLY is judged: the buffer FREE, its mark as partner gone, the record made. -/
def State.released (s : State) (b : Buf) : State :=
  ((s.setControl { s.control with flushDiscard := s.control.flushDiscard
      || (Decidable.decide (s.maint.slot = .flush) && s.bufJudged (s.buf b)) }).setDrain { s.drain.setBuf b {} with
      partner := if s.drain.partner = some b then none else s.drain.partner }).addFault
    { kind := .heldReleased, source := .maint, epoch := s.control.epoch, page := some (s.buf b).page,
      seq := some (s.buf b).firstSeq, retained := some false, detail := BitVec.ofNat 8 (s.buf b).lines.length }

theorem State.releaseBuffer_eq : s.releaseBuffer b = (s.released b).judgeApply := by
  have hflag : (if s.maint.slot == .flush && s.bufJudged (s.buf b)
        then s.setControl { s.control with flushDiscard := true } else s)
      = s.setControl { s.control with flushDiscard := s.control.flushDiscard
          || (Decidable.decide (s.maint.slot = .flush) && s.bufJudged (s.buf b)) } := by
    change (if (Decidable.decide (s.maint.slot = .flush) && s.bufJudged (s.buf b)) = true then _ else _) = _
    cases Decidable.decide (s.maint.slot = .flush) && s.bufJudged (s.buf b)
    · rw [Bool.or_false]; rfl
    · rw [Bool.or_true]; rfl
  have hpartner (u : State) :
      (if u.drain.partner == some b then u.setDrain { u.drain with partner := none } else u)
        = u.setDrain { u.drain with partner := if u.drain.partner = some b then none else u.drain.partner } := by
    by_cases h : u.drain.partner = some b
    · rw [if_pos h]; exact if_pos (beq_iff_eq.mpr h)
    · rw [if_neg h]; exact if_neg (mt beq_iff_eq.mp h)
  unfold State.releaseBuffer State.released
  dsimp only
  rw [hflag, hpartner]
  cases b <;> rfl

/-! ### The validation of a set (07 R137) -/

theorem windowItemBad_iff {it : Item} : windowItemBad it = true ↔ 12 < itemExponent it
    ∨ ¬ 2 ^ itemExponent it ∣ itemBase it ∨ 3 < itemClassCode it ∨ itemPortCode it = 0 ∨ 3 < itemPortCode it := by
  simp only [windowItemBad, Bool.or_eq_true, decide_eq_true_eq, or_assoc, Nat.dvd_iff_mod_eq_zero, ne_eq]

theorem globalsItemBad_iff {it : Item} : globalsItemBad it = true ↔ 255 < globalsWindow it ∨ globalsHwm it = 0
    ∨ 24 < globalsHwm it ∨ 7 < globalsStallCode it ∨ globalsTimeout it = 0 ∨ 31 < globalsTimeout it
    ∨ globalsRetryLimit it = 0 ∨ 4 < globalsRetryLimit it ∨ 1 < globalsVerifyCode it ∨ globalsBudget it < 2
    ∨ 32 < globalsBudget it := by
  simp only [globalsItemBad, Bool.or_eq_true, decide_eq_true_eq, or_assoc]

/-- The verdict on item `j`, by its fields. -/
theorem ConfigSet.badItems_get (c : ConfigSet) {j : Nat} (hj : j < c.badItems.length) :
    c.badItems[j] = true ↔ badItem (j < 8) (c.item j) := by
  have hwindow (it : Item) (j : Nat) (hj : j < 8) : windowItemBad it = true ↔ badItem (j < 8) it := by
    rw [badItem, if_pos hj]; exact windowItemBad_iff
  match j, hj with
  | 0, _ => exact hwindow _ 0 (by decide)
  | 1, _ => exact hwindow _ 1 (by decide)
  | 2, _ => exact hwindow _ 2 (by decide)
  | 3, _ => exact hwindow _ 3 (by decide)
  | 4, _ => exact hwindow _ 4 (by decide)
  | 5, _ => exact hwindow _ 5 (by decide)
  | 6, _ => exact hwindow _ 6 (by decide)
  | 7, _ => exact hwindow _ 7 (by decide)
  | 8, _ => rw [badItem, if_neg (by decide)]; exact globalsItemBad_iff
  | j + 9, hj => exact absurd hj (by simp [ConfigSet.badItems, ConfigSet.windows])

theorem ConfigSet.firstBad_some_iff {c : ConfigSet} {i : Nat} : c.firstBad = some i
    ↔ i < 9 ∧ (∀ j < i, ¬ badItem (j < 8) (c.item j)) ∧ badItem (i < 8) (c.item i) := by
  rw [ConfigSet.firstBad, List.findIdx?_eq_some_iff_getElem]
  constructor
  · rintro ⟨hlen, hbad, hfirst⟩
    exact ⟨hlen, fun j hj => mt (c.badItems_get (Nat.lt_trans hj hlen)).mpr (hfirst j hj), (c.badItems_get hlen).mp hbad⟩
  · rintro ⟨hlen, hfirst, hbad⟩
    exact ⟨hlen, (c.badItems_get (by exact hlen)).mpr hbad, fun j hj => mt (c.badItems_get _).mp (hfirst j hj)⟩

theorem ConfigSet.firstBad_none_iff {c : ConfigSet} : c.firstBad = none ↔ ∀ j < 9, ¬ badItem (j < 8) (c.item j) := by
  rw [ConfigSet.firstBad, List.findIdx?_eq_none_iff]
  constructor
  · intro h j hj hbad
    have hlen : j < c.badItems.length := hj
    have hgood := h _ (List.getElem_mem hlen)
    rw [id, (c.badItems_get hlen).mpr hbad] at hgood
    cases hgood
  · intro h x hx
    obtain ⟨j, hj, rfl⟩ := List.getElem_of_mem hx
    rw [id, ← Bool.not_eq_true]
    exact mt (c.badItems_get hj).mp (h j hj)

/-! ### APPLY (07 R136, R138) -/

theorem State.anyHeld_iff : s.anyHeld = true ↔ ∃ b, (s.buf b).state = .held := by
  rw [State.anyHeld, Bool.or_eq_true, beq_iff_eq, beq_iff_eq]
  constructor
  · rintro (h | h)
    · exact ⟨.pb0, h⟩
    · exact ⟨.pb1, h⟩
  · rintro ⟨b, h⟩
    cases b
    · exact .inl h
    · exact .inr h

section
variable (ht : s.takesFrames = true)
include ht

theorem exec_apply_slot {code : Byte} (h : s.slotTest = some code) : exec .apply s = .next (s.respond code []) := by
  simp only [exec, execApply, ht, h, if_true]

theorem exec_flush_slot {code : Byte} (h : s.slotTest = some code) : exec .flush s = .next (s.respond code []) := by
  simp only [exec, execFlush, ht, h, if_true]

theorem exec_apply_mode (h : s.slotTest = none) (hm : s.control.mode ≠ .running) :
    exec .apply s = .next (s.respond respRefusedMode []) := by
  simp only [exec, execApply, ht, h, bne_iff_ne, ne_eq, hm, not_false_eq_true, if_true]

section
variable (h : s.slotTest = none) (hm : s.control.mode = .running)
include h hm

theorem exec_apply_held (hheld : s.anyHeld = true) : exec .apply s = .next (s.respond respRefusedHeld []) := by
  simp only [exec, execApply, ht, h, hm, bne_self_eq_false, Bool.false_eq_true, hheld, if_true, if_false]

theorem exec_apply_bad (hheld : s.anyHeld = false) {i : Nat} (hbad : s.shadow.firstBad = some i) :
    exec .apply s = .next (s.respond respInvalid [BitVec.ofNat 8 i]) := by
  simp only [exec, execApply, ht, h, hm, bne_self_eq_false, Bool.false_eq_true, hheld, hbad, if_true, if_false]

theorem exec_apply_accepted (hheld : s.anyHeld = false) (hgood : s.shadow.firstBad = none) :
    exec .apply s = .next (s.acceptApply.respond respOk []).endEvent := by
  simp only [exec, execApply, ht, h, hm, bne_self_eq_false, Bool.false_eq_true, hheld, hgood, if_true, if_false]

end

theorem exec_flush (h : s.slotTest = none) : exec .flush s
    = .next (if s.control.mode.flushes then (s.acceptFlush.respond respOk []).endEvent
        else s.respond respRefusedMode []) := by
  simp only [exec, execFlush, ht, h, if_true]
  cases s.control.mode.flushes <;> rfl

end

theorem State.acceptApply_eq (hm : s.control.mode = .running) : s.acceptApply
    = ((s.setMaint { s.maint with slot := .apply }).setQueue s.queue.closeAll).setControl
      { s.control with
        mode := .applying, stopPending := false, resumePending := false, fromStarting := false, request := none } := by
  unfold State.acceptApply State.changeMode
  simp only [State.setQueue_control, State.setMaint_control, hm]
  exact State.portsOnMode_other (by simp) (by simp) (by simp)

/-! ### FLUSH (07 R144 to R146) -/

theorem exec_flushCompletion (hr : s.rstn = true) : exec .flushCompletion s = .next s.judgeFlush := by
  simp only [exec, execFlushCompletion, hr, if_true]

theorem State.exists_buf (P : Buf → Prop) : (∃ b, P b) ↔ P .pb0 ∨ P .pb1 :=
  ⟨fun ⟨b, hb⟩ => Buf.rec (motive := fun b => P b → _) .inl .inr b hb, fun h => h.elim (⟨_, ·⟩) (⟨_, ·⟩)⟩

theorem State.flushRemains_iff : s.flushRemains = true
    ↔ (∃ e ∈ s.queue.entries, s.Judged e.firstSeq) ∨ ∃ b, (s.buf b).state ≠ .free ∧ s.Judged (s.buf b).firstSeq := by
  rw [State.exists_buf, State.flushRemains, Bool.or_eq_true, Bool.or_eq_true, List.any_eq_true, State.bufJudged_iff,
    State.bufJudged_iff, or_assoc]
  simp only [State.entryJudged_iff]
  rfl

/-- What 07 R146 asks of one buffer before the drain is blocked on it. -/
theorem State.heldForGood_iff : s.heldForGood b = true ↔ ((s.buf b).state ≠ .free → s.Judged (s.buf b).firstSeq →
    (s.buf b).state = .held ∧ (∀ e ∈ s.queue.entries, pageOfLine e.line ≠ (s.buf b).page)
      ∧ ((s.buf b.other).page = (s.buf b).page → (s.buf b.other).state = .free ∨ (s.buf b.other).state = .held)) := by
  have hworking : ((s.buf b.other).state == .filled || (s.buf b.other).state.inProgram) = false
      ↔ (s.buf b.other).state = .free ∨ (s.buf b.other).state = .held := by
    cases (s.buf b.other).state <;> decide
  unfold State.heldForGood
  simp only [Bool.or_eq_true, Bool.not_eq_true', Bool.and_eq_true, beq_iff_eq, Bool.and_eq_false_iff, hworking,
    List.all_eq_true, bne_iff_ne, beq_eq_false_iff_ne]
  rw [← Bool.not_eq_true, State.bufJudged_iff]
  constructor
  · rintro (hno | ⟨⟨hheld, hqueue⟩, hpartner⟩) hne hj
    · exact absurd ⟨hne, hj⟩ hno
    · exact ⟨hheld, hqueue, fun hp => hpartner.resolve_right fun hother => hother hp⟩
  · intro h
    by_cases hj : (s.buf b).state ≠ .free ∧ s.Judged (s.buf b).firstSeq
    · obtain ⟨hheld, hqueue, hpartner⟩ := h hj.1 hj.2
      refine .inr ⟨⟨hheld, hqueue⟩, ?_⟩
      by_cases hp : (s.buf b.other).page = (s.buf b).page
      · exact .inl (hpartner hp)
      · exact .inr hp
    · exact .inl hj

theorem State.flushBlocked_iff : s.flushBlocked = true ↔ s.flushRemains = true ∧ s.NoProgress := by
  have hboth : (s.heldForGood .pb0 = true ∧ s.heldForGood .pb1 = true) ↔ ∀ b, s.heldForGood b = true :=
    ⟨fun h => Buf.rec h.1 h.2, fun h => ⟨h .pb0, h .pb1⟩⟩
  rw [State.flushBlocked, Bool.and_eq_true, Bool.or_eq_true, State.halted_iff, Bool.and_eq_true, Bool.and_eq_true, and_assoc,
    hboth, Bool.not_eq_true', ← Bool.not_eq_true, List.any_eq_true]
  unfold State.NoProgress
  simp only [State.entryJudged_iff, State.heldForGood_iff, not_exists, not_and]

theorem State.mem_flushLines {l : Nat} :
    l ∈ distinct ((s.queue.entries.filter s.entryJudged).map (·.line)
      ++ (if s.bufJudged s.drain.pb0 then s.drain.pb0.lines else [])
      ++ (if s.bufJudged s.drain.pb1 then s.drain.pb1.lines else []))
    ↔ (∃ e ∈ s.queue.entries, s.Judged e.firstSeq ∧ e.line = l)
      ∨ ∃ b, s.Judged (s.buf b).firstSeq ∧ (s.buf b).Carries l := by
  have hbuf (x : PageBuffer) : l ∈ (if s.bufJudged x then x.lines else []) ↔ s.Judged x.firstSeq ∧ x.Carries l := by
    by_cases h : s.bufJudged x = true
    · rw [if_pos h, PageBuffer.mem_lines]
      exact (and_iff_right (State.bufJudged_iff.mp h).2).symm
    · rw [if_neg h]
      exact ⟨nofun, fun ⟨hj, hc⟩ => absurd (State.bufJudged_iff.mpr ⟨hc.1, hj⟩) h⟩
  rw [mem_distinct, List.mem_append, List.mem_append, hbuf, hbuf, or_assoc, State.exists_buf]
  refine or_congr ?_ Iff.rfl
  simp only [List.mem_map, List.mem_filter, State.entryJudged_iff, and_assoc]

/-- Two lists of the same lines, each line once, are of one length. -/
theorem length_eq_of_same_lines {l₁ l₂ : List Nat} (h₁ : l₁.Nodup) (h₂ : l₂.Nodup) (h : ∀ a, a ∈ l₁ ↔ a ∈ l₂) :
    l₁.length = l₂.length := ((List.perm_ext_iff_of_nodup h₁ h₂).mpr h).length_eq

theorem State.flushLines_eq {lines : List Nat} (h : s.JudgedLines lines) : s.flushLines = lines.length :=
  length_eq_of_same_lines (nodup_distinct _) h.once fun l => State.mem_flushLines.trans (h.those l).symm

end
end Sys2Proof.Machine

open Sys2Proof Sys2Proof.Machine

/-- Settles O37. -/
theorem retryHeld : Obligations.RetryHeld := by
  unfold Obligations.RetryHeld
  refine fun s arg ht => ⟨fun h0 h1 => exec_retryHeld_invalid ht (bufArg_none h0 h1), fun b hb => ⟨fun h => ?_, fun h => ?_⟩⟩
  · rw [exec_retryHeld ht (bufArg_some hb), if_neg h]
    rfl
  · rw [exec_retryHeld ht (bufArg_some hb), if_pos h]
    rfl

/-- Settles O38. -/
theorem releaseHeld : Obligations.ReleaseHeld := by
  unfold Obligations.ReleaseHeld
  refine ⟨fun x => ⟨x.nodup_lines, fun l => PageBuffer.mem_lines⟩, fun s x => State.bufJudged_iff, fun s arg ht =>
    ⟨fun h0 h1 => exec_releaseHeld_invalid ht (bufArg_none h0 h1), fun b hb => ⟨fun h => ?_, fun u h hu => ?_⟩⟩⟩
  · rw [exec_releaseHeld ht (bufArg_some hb), if_neg h]
    rfl
  · obtain rfl : u = s.released b := hu
    rw [exec_releaseHeld ht (bufArg_some hb), if_pos h, State.releaseBuffer_eq, State.judgeApply_eq]
    rfl

/-- Settles O40: the verdicts item by item, and each test of the command on a state that passed those before it. -/
theorem applyIsTested : Obligations.ApplyIsTested := by
  unfold Obligations.ApplyIsTested
  refine ⟨fun c i => ConfigSet.firstBad_some_iff, fun c => ConfigSet.firstBad_none_iff, fun s ht =>
    ⟨fun h => exec_apply_slot ht (State.slotTest_busy h), fun h hr => exec_apply_slot ht (State.slotTest_unread h hr),
      fun h hr => ?_⟩⟩
  have hslot := State.slotTest_none h hr
  refine ⟨exec_apply_mode ht hslot, fun hm => ⟨fun hheld => exec_apply_held ht hslot hm (State.anyHeld_iff.mpr hheld),
    fun hheld => ?_⟩⟩
  have hnone : s.anyHeld = false := by
    rw [← Bool.not_eq_true, State.anyHeld_iff]
    exact not_exists.mpr hheld
  refine ⟨fun i hi => exec_apply_bad ht hslot hm hnone hi, fun hgood => ?_⟩
  rw [exec_apply_accepted ht hslot hm hnone hgood, State.acceptApply_eq hm]
  rfl

/-- Settles O42. -/
theorem flushIsAcceptedAndJudged : Obligations.FlushIsAcceptedAndJudged := by
  unfold Obligations.FlushIsAcceptedAndJudged
  refine ⟨fun x => rfl, fun s => ⟨fun ht => ⟨fun h => exec_flush_slot ht (State.slotTest_busy h),
    fun h hr => exec_flush_slot ht (State.slotTest_unread h hr), fun h hr => ⟨fun hm => ?_, fun hm => ?_⟩⟩,
    fun hr hslot => ?_, State.flushRemains_iff, State.flushBlocked_iff, fun lines => State.flushLines_eq⟩⟩
  · rw [exec_flush ht (State.slotTest_none h hr)]
    rcases hm with hm | hm | hm <;> rw [hm] <;> rfl
  · have hflushes : s.control.mode.flushes = true := by rcases hm with hm | hm | hm | hm <;> rw [hm] <;> rfl
    rw [exec_flush ht (State.slotTest_none h hr), if_pos hflushes]
    rfl
  · rw [exec_flushCompletion hr]
    exact ⟨fun h => congrArg _ (State.flushJudged_iff.mp (.done hslot h)).symm,
      fun h hb => congrArg _ (State.flushJudged_iff.mp (.blocked hslot h hb)).symm,
      fun h hb => congrArg _ (State.flushJudged_iff.mp (.goesOn hslot h hb)).symm⟩
end


section
/-! PROOF. Only the completion of an APPLY changes the active set and the epoch (07 R130, R135, R140; O41). -/
namespace Sys2Proof.Machine

/-! ### The epoch through the operations that change the control block -/

theorem epoch_ite {c : Prop} [Decidable c] {t u : State} {x : Byte} (ht : t.control.epoch = x) (hu : u.control.epoch = x) :
    (if c then t else u).control.epoch = x := by split <;> assumption

section
variable (s : State)

@[simp] theorem State.changeMode_epoch (new : Mode) : (s.changeMode new).control.epoch = s.control.epoch := by
  simp [State.changeMode, Control.enter]

@[simp] theorem State.startupFailed_epoch (r : StartupReason) : (s.startupFailed r).control.epoch = s.control.epoch := by
  simp [State.startupFailed]

@[simp] theorem State.enterPfDrain_epoch : s.enterPfDrain.control.epoch = s.control.epoch := by
  simp [State.enterPfDrain]

@[simp] theorem State.abortApplyHeld_epoch : s.abortApplyHeld.control.epoch = s.control.epoch := epoch_ite (by simp) rfl

@[simp] theorem State.acceptApply_epoch : s.acceptApply.control.epoch = s.control.epoch := by simp [State.acceptApply]

@[simp] theorem State.acceptFlush_epoch : s.acceptFlush.control.epoch = s.control.epoch := rfl

@[simp] theorem State.startupNext_epoch (next : CtrlReq) : (s.startupNext next).control.epoch = s.control.epoch :=
  epoch_ite (by simp) rfl

@[simp] theorem State.startupDone_epoch : s.startupDone.control.epoch = s.control.epoch := State.changeMode_epoch ..

@[simp] theorem State.drainMarkerDone_epoch : s.drainMarkerDone.control.epoch = s.control.epoch := State.changeMode_epoch ..

@[simp] theorem State.resumeMarkerDone_epoch : s.resumeMarkerDone.control.epoch = s.control.epoch :=
  epoch_ite (by simp) (by simp)

@[simp] theorem State.onAssertion_epoch : s.onAssertion.control.epoch = s.control.epoch := by
  unfold State.onAssertion
  cases s.control.mode with
  | running | applying => simp
  | starting | resuming => exact epoch_ite rfl (by simp)
  | pfDrain | pfDone | failed => rfl

@[simp] theorem State.onRelease_epoch : s.onRelease.control.epoch = s.control.epoch := by
  unfold State.onRelease
  cases s.control.mode with
  | pfDrain => exact epoch_ite rfl (by simp)
  | pfDone => simp
  | starting | running | applying | resuming | failed => rfl

@[simp] theorem State.startMarkerAttempt_epoch : s.startMarkerAttempt.control.epoch = s.control.epoch := by
  rw [State.startMarkerAttempt_eq]
  simp

@[simp] theorem State.markerSuccess_epoch : s.markerSuccess.control.epoch = s.control.epoch := by
  unfold State.markerSuccess
  cases s.control.mode with
  | starting | pfDrain | resuming => simp
  | running | applying | pfDone | failed => rfl

section
variable (b : Buf) (r : FailReason) (st : Byte)

@[simp] theorem State.finalFailure_epoch : (s.finalFailure b r).control.epoch = s.control.epoch :=
  (State.abortApplyHeld_epoch _).trans (epoch_ite (by simp) (by simp))

@[simp] theorem State.attemptFailed_epoch : (s.attemptFailed b r).control.epoch = s.control.epoch :=
  epoch_ite (by simp) (epoch_ite (by simp) (by simp))

@[simp] theorem State.markerGivenUp_epoch : (s.markerGivenUp r).control.epoch = s.control.epoch := by
  unfold State.markerGivenUp
  cases s.control.mode with
  | starting | pfDrain | resuming => simp
  | running | applying | pfDone | failed => rfl

@[simp] theorem State.markerAttemptFailed_epoch : (s.markerAttemptFailed r).control.epoch = s.control.epoch :=
  epoch_ite (by simp) (by simp)

@[simp] theorem State.judgeMarker_epoch : (s.judgeMarker st).control.epoch = s.control.epoch :=
  epoch_ite (by simp) (epoch_ite (by simp) (by simp))

end

@[simp] theorem State.decide_epoch : s.decide.control.epoch = s.control.epoch := s.decide_control.epoch

@[simp] theorem State.settleDone_epoch (k : ReqKind) : (s.settleDone k).control.epoch = s.control.epoch :=
  epoch_ite (by simp) (by simp)

@[simp] theorem State.probeQuiet_epoch : s.probeQuiet.control.epoch = s.control.epoch := by simp [State.probeQuiet]

@[simp] theorem State.probeSilent_epoch : s.probeSilent.control.epoch = s.control.epoch := by simp [State.probeSilent]

@[simp] theorem State.placeReport_epoch (bytes : List Byte) : (s.placeReport bytes).control.epoch = s.control.epoch := by
  simp [State.placeReport]

@[simp] theorem State.chargePageWrite_epoch : s.chargePageWrite.control.epoch = s.control.epoch := epoch_ite rfl rfl

@[simp] theorem State.issuePageWrite_epoch : s.issuePageWrite.control.epoch = s.control.epoch := by
  unfold State.issuePageWrite
  split
  · exact epoch_ite rfl (by simp)
  · rfl

end

/-! ### An APPLY is completed, or the active set and the epoch stand -/

/-- The active set and the epoch stand, or an APPLY has completed between the two states. -/
def State.Sets (s t : State) : Prop :=
  t.active = s.active ∧ t.control.epoch = s.control.epoch
    ∨ s.control.mode = .applying ∧ t.control.mode = .running ∧ t.active = s.shadow ∧ t.control.epoch = s.control.epoch + 1

section
variable {s t u : State}

theorem State.Sets.refl (s : State) : s.Sets s := .inl ⟨rfl, rfl⟩

theorem State.Sets.ite {c : Prop} [Decidable c] (ht : s.Sets t) (hu : s.Sets u) : s.Sets (if c then t else u) := by
  split <;> assumption

/-- What precedes keeps the mode and both sets. -/
theorem State.Sets.from (h : t.Sets u) (ha : t.active = s.active) (hsh : t.shadow = s.shadow)
    (hc : t.control.mode = s.control.mode) (he : t.control.epoch = s.control.epoch) : s.Sets u := by
  unfold State.Sets at h ⊢
  rwa [ha, hsh, hc, he] at h

/-- What follows keeps the mode, the active set and the epoch. -/
theorem State.Sets.then (h : s.Sets t) (ha : u.active = t.active) (hc : u.control.mode = t.control.mode)
    (he : u.control.epoch = t.control.epoch) : s.Sets u := by
  unfold State.Sets at h ⊢
  rwa [ha, hc, he]

theorem State.Sets.endEvent (h : s.Sets t) : s.Sets t.endEvent := h.then (by simp) (by simp) (by simp)

@[simp] theorem State.changeMode_mode (s : State) (new : Mode) : (s.changeMode new).control.mode = new := by
  simp [State.changeMode, Control.enter]

theorem State.sets_completeApply (hm : s.control.mode = .applying) : s.Sets s.completeApply := by
  refine .inr ⟨hm, State.changeMode_mode .., ?_, ?_⟩
  · simp [State.completeApply]
  · simp [State.completeApply]

theorem State.sets_judgeApply (s : State) : s.Sets s.judgeApply := by
  rw [State.judgeApply_eq]
  split
  · rename_i h; exact State.sets_completeApply h.1
  · exact .refl s

section
variable (s : State) (b : Buf) (st : Byte)

theorem State.sets_programSuccess : s.Sets (s.programSuccess b) := by
  rw [State.programSuccess_judged]
  exact (State.sets_judgeApply _).from (by simp) (by simp) (by simp) (by simp)

theorem State.sets_judgeProgram : s.Sets (s.judgeProgram b st) :=
  .ite (.inl ⟨by simp, by simp⟩) (.ite (.inl ⟨by simp, by simp⟩) (State.sets_programSuccess s b))

theorem State.sets_releaseBuffer : s.Sets (s.releaseBuffer b) := by
  rw [State.releaseBuffer_eq]
  exact (State.sets_judgeApply _).from rfl rfl rfl rfl

theorem State.sets_judgeStatus (op : LinkOp) : s.Sets (s.judgeStatus op st) := by
  cases op with
  | program b =>
    exact .ite (.inl ⟨rfl, rfl⟩) (.ite (.inl ⟨by simp [State.settled], by simp [State.settled]⟩)
      ((State.sets_judgeProgram s.pollEnds b st).from rfl rfl rfl rfl))
  | markerWrite =>
    exact .ite (.inl ⟨rfl, rfl⟩) (.ite (.inl ⟨by simp [State.settled], by simp [State.settled]⟩)
      (.inl ⟨by simp, by simp⟩))
  | directWrite => exact .ite (.inl ⟨rfl, rfl⟩) (.inl ⟨by simp, by simp⟩)
  | probe => exact .ite (.inl ⟨rfl, rfl⟩) (.inl ⟨by simp, by simp⟩)
  | settle k => exact .ite (.inl ⟨rfl, rfl⟩) (.inl ⟨by simp, by simp⟩)
  | fetch | markerRead | directId | directStatus | directRead => exact .refl s

end

/-- A command that comes in a frame lets the active set and the epoch stand, or RELEASE-HELD completes an APPLY. -/
theorem exec_sets_frame {c : Instr} {bs : List Byte} (hc : encodeFrame c = some bs) : ∃ t, exec c s = .next t ∧ s.Sets t := by
  cases c with
  | releaseHeld =>
    refine ⟨_, rfl, .ite ?_ (.refl s)⟩
    split
    · exact .inl ⟨rfl, rfl⟩
    · exact .ite (State.Sets.endEvent ((State.sets_releaseBuffer s _).then rfl rfl rfl)) (.inl ⟨rfl, rfl⟩)
  | unknownCommand | status | readMarkerReport | readCounters | clearCounters | setIrqMask =>
    exact ⟨_, rfl, .ite (.inl ⟨rfl, rfl⟩) (.refl s)⟩
  | readActive | readShadow | revertShadow | reprobe =>
    exact ⟨_, rfl, .ite (.ite (.inl ⟨by simp, by simp⟩) (.inl ⟨rfl, rfl⟩)) (.refl s)⟩
  | writeShadow =>
    exact ⟨_, rfl, .ite (.ite (.inl ⟨rfl, rfl⟩) (.ite (.inl ⟨rfl, rfl⟩) (.inl ⟨rfl, rfl⟩))) (.refl s)⟩
  | directId | directStatus | directRead | directWrite | result =>
    refine ⟨_, rfl, .ite ?_ (.refl s)⟩
    split <;> exact .inl ⟨by simp, by simp⟩
  | readFault =>
    refine ⟨_, rfl, .ite ?_ (.refl s)⟩
    split <;> exact .inl ⟨rfl, rfl⟩
  | retryHeld | flush =>
    refine ⟨_, rfl, .ite ?_ (.refl s)⟩
    split
    · exact .inl ⟨rfl, rfl⟩
    · exact .ite (.inl ⟨by simp, by simp⟩) (.inl ⟨by simp, by simp⟩)
  | apply =>
    refine ⟨_, rfl, .ite ?_ (.refl s)⟩
    split
    · exact .inl ⟨rfl, rfl⟩
    · refine .ite (.inl ⟨rfl, rfl⟩) (.ite (.inl ⟨rfl, rfl⟩) ?_)
      split <;> exact .inl ⟨by simp, by simp⟩
  | hostAccessBegin | hostAccessEnd | withdrawal | stallTimerExpiry | windowTimerExpiry | takeRun | slotArbiterServe
  | portModeChange | heldBackFetchEntry | arbiterDecision | fetchCompletion | gapReadCompletion | writeEnableCompletion
  | pageWriteCompletion | pollIntervalExpiry | readStatusCompletion | verifyReadCompletion | throughWaiterOutcome
  | programTimerExpiry | settleLimitExpiry | pinWaitEnd | directWaitLimitExpiry | directIdCompletion
  | directStatusCompletion | directReadCompletion | probeReadIdCompletion | probeBusyTimerExpiry | markerReadCompletion
  | pfailnFall | pfailnRise | filteredAssertion | filteredRelease | rstnFall | rstnRise | frameCutShort | applyCompletion
  | flushCompletion | ssnRiseAfterReset => cases hc

theorem exec_readStatus_sets (st : Byte) : ∃ t, exec (.readStatusCompletion st) s = .next t ∧ s.Sets t := by
  refine ⟨_, rfl, .ite (.ite (.inl ⟨by simp, by simp⟩) ?_) (.refl s)⟩
  split
  · rename_i op _
    have hjudge : s.Sets ((s.sawStatus st).judgeStatus op st) :=
      (State.sets_judgeStatus (s.sawStatus st) st op).from rfl rfl rfl rfl
    exact .ite hjudge.endEvent (.refl s)
  · exact .refl s

theorem exec_verifyRead_sets (bytes : List Byte) : ∃ t, exec (.verifyReadCompletion bytes) s = .next t ∧ s.Sets t := by
  refine ⟨_, rfl, ?_⟩
  split
  · rename_i b _ _ _ _ _
    have hsuccess : s.Sets ((s.setLink s.link.wireDone).programSuccess b) :=
      (State.sets_programSuccess (s.setLink s.link.wireDone) b).from rfl rfl rfl rfl
    exact .ite (State.Sets.endEvent (.ite hsuccess (.inl ⟨by simp, by simp⟩))) (.refl s)
  · exact .ite (State.Sets.endEvent (.ite (.inl ⟨by simp, by simp⟩) (.inl ⟨by simp, by simp⟩))) (.refl s)
  · exact .refl s

theorem exec_applyCompletion (hr : s.rstn = true) : exec .applyCompletion s
    = .next (if s.control.mode = .applying ∧ s.nothingRetained = true then s.completeApply.endEvent else s) :=
  congrArg Host.Outcome.next (if_iff_congr (by simp [hr]) rfl rfl)

theorem exec_applyCompletion_sets (hr : s.rstn = true) : ∃ t, exec .applyCompletion s = .next t ∧ s.Sets t := by
  refine ⟨_, exec_applyCompletion hr, ?_⟩
  split
  · rename_i h; exact (State.sets_completeApply h.1).endEvent
  · exact .refl s

/-- An event that comes in no frame lets the active set and the epoch stand, or the end of a program or APPLY_COMPLETION
completes an APPLY. -/
theorem exec_sets_event {c : Instr} (hr : s.rstn = true) (hfall : c ≠ .rstnFall) (hc : encodeFrame c = none) :
    ∃ t, exec c s = .next t ∧ s.Sets t := by
  cases c with
  | rstnFall => exact absurd rfl hfall
  | rstnRise => exact ⟨s, congrArg Host.Outcome.next (if_pos hr), .refl s⟩
  | applyCompletion => exact exec_applyCompletion_sets hr
  | readStatusCompletion st => exact exec_readStatus_sets st
  | verifyReadCompletion bytes => exact exec_verifyRead_sets bytes
  | hostAccessEnd | withdrawal | stallTimerExpiry | windowTimerExpiry | takeRun | slotArbiterServe | portModeChange
  | heldBackFetchEntry | arbiterDecision | writeEnableCompletion | pollIntervalExpiry | throughWaiterOutcome | pinWaitEnd
  | directWaitLimitExpiry | directIdCompletion | directStatusCompletion | probeBusyTimerExpiry | pfailnRise
  | filteredAssertion | filteredRelease | frameCutShort | flushCompletion | ssnRiseAfterReset =>
    exact ⟨_, rfl, .ite (.inl ⟨by simp, by simp⟩) (.refl s)⟩
  | pfailnFall => exact ⟨_, rfl, .ite (.refl s) (.inl ⟨rfl, rfl⟩)⟩
  | hostAccessBegin => exact ⟨_, rfl, .ite (.refl s) (.ite (.refl s) (.inl ⟨by simp, by simp⟩))⟩
  | fetchCompletion | pageWriteCompletion | settleLimitExpiry =>
    refine ⟨_, rfl, ?_⟩
    split <;> exact .inl ⟨by simp, by simp⟩
  | gapReadCompletion | directReadCompletion | markerReadCompletion =>
    refine ⟨_, rfl, ?_⟩
    split
    · exact .ite (.inl ⟨by simp, by simp⟩) (.refl s)
    · exact .refl s
  | programTimerExpiry =>
    refine ⟨_, rfl, .ite ?_ (.refl s)⟩
    split <;> exact .inl ⟨by simp, by simp⟩
  | probeReadIdCompletion =>
    refine ⟨_, rfl, .ite (.ite (.inl ⟨by simp, by simp⟩) (.ite (State.Sets.endEvent (.ite ?_ ?_)) (.refl s))) (.refl s)⟩
    · exact .inl ⟨by simp, by simp⟩
    · exact .inl ⟨rfl, rfl⟩
  | releaseHeld | unknownCommand | status | readMarkerReport | readCounters | clearCounters | setIrqMask | readActive
  | readShadow | revertShadow | reprobe | writeShadow | directId | directStatus | directRead | directWrite | result | readFault
  | retryHeld | flush | apply => cases hc

/-- With RSTn high only the completion of an APPLY changes the active set and the epoch. -/
theorem exec_sets {c : Instr} (hr : s.rstn = true) (hfall : c ≠ .rstnFall) : ∃ t, exec c s = .next t ∧ s.Sets t := by
  cases hc : encodeFrame c with
  | none => exact exec_sets_event hr hfall hc
  | some bs => exact exec_sets_frame hc

theorem State.nothingRetained_iff :
    s.nothingRetained = true ↔ s.queue.entries = [] ∧ ∀ b, (s.buf b).state = .free := by
  simp only [State.nothingRetained, Bool.and_eq_true, List.isEmpty_iff, beq_iff_eq, and_assoc]
  exact and_congr_right fun _ => ⟨fun h => Buf.rec h.1 h.2, fun h => ⟨h .pb0, h .pb1⟩⟩

theorem State.changeMode_from {old : Mode} (hm : s.control.mode = old) (new : Mode) :
    s.changeMode new = (s.setControl (s.control.enter new)).portsOnMode old new := by
  rw [State.changeMode, hm]

/-- In APPLYING the completion ends with the pending writes offered (07 R140; 02 R41). -/
theorem State.completeApply_applying (hm : s.control.mode = .applying) : s.completeApply
    = (((s.setActive s.shadow).setControl { s.control with
        mode := .running, epoch := s.control.epoch + 1, stopPending := false, resumePending := false, fromStarting := false,
        request := none }).setMaint { s.maint with
          result := some ⟨s.maint.slot, .ok, [s.control.epoch + 1]⟩, ready := true, slot := .idle }).writesOffered := by
  rw [State.writesOffered_eq]
  have hmode : (((s.setActive s.shadow).setControl { s.control with epoch := s.control.epoch + 1 }).completeLong .ok
      [s.control.epoch + 1]).control.mode = .applying := hm
  exact State.changeMode_from hmode .running

end
end Sys2Proof.Machine

open Sys2Proof Sys2Proof.Machine

/-- Settles O41: the completion by its definition, and no other command reaches the active set and the epoch (`exec_sets`). -/
theorem applyCompletes : Obligations.ApplyCompletes := by
  unfold Obligations.ApplyCompletes
  refine ⟨fun s => ⟨State.nothingRetained_iff, rfl⟩, fun s hr => ⟨fun hm hq hb => ?_, fun h => ?_⟩, fun c s t he hr ht => ?_⟩
  · rw [exec_applyCompletion hr, if_pos ⟨hm, State.nothingRetained_iff.mpr ⟨hq, hb⟩⟩, State.completeApply_applying hm]
  · rw [exec_applyCompletion hr, if_neg]
    rintro ⟨hm, hnone⟩
    obtain ⟨hq, hb⟩ := State.nothingRetained_iff.mp hnone
    rcases h with h | h | ⟨b, h⟩
    · exact h hm
    · exact h hq
    · exact h (hb b)
  · obtain ⟨t', he', hsets⟩ := exec_sets hr (ne_rstnFall_of_exec he hr ht)
    obtain rfl : t' = t := Host.Outcome.next.inj (he'.symm.trans he)
    exact hsets
end


section
/-! PROOF. The start-up sequence: the ends of PROBE, the marker record as read, and its bytes (08 R150 to R158, R162;
10 R205; O43 to O45). -/
namespace Sys2Proof.Machine

section
variable {s : State} {st : Byte} {b0 b1 b2 : Byte}

/-! ### PROBE (08 R152, R153) -/

theorem noMemoryAnswers_iff : noMemoryAnswers b0 b1 b2 = true
    ↔ b0 = 0 ∧ b1 = 0 ∧ b2 = 0 ∨ b0 = 255 ∧ b1 = 255 ∧ b2 = 255 := by
  simp only [noMemoryAnswers, Bool.or_eq_true, Bool.and_eq_true, beq_iff_eq, and_assoc]

theorem exec_probeReadIdCompletion_stale (hr : s.rstn = true) (hw : s.link.wire = some .readId) (hs : s.link.stale = true) :
    exec (.probeReadIdCompletion b0 b1 b2) s = .next (s.setLink s.link.wireDone).afterStale.endEvent := by
  simp only [exec, execProbeReadIdCompletion, hr, hw, hs, beq_self_eq_true, Bool.and_self, if_true]

theorem exec_probeReadIdCompletion (hr : s.rstn = true) (hw : s.link.wire = some .readId) (hs : s.link.stale = false)
    (hold : s.link.holder = some .probe) : exec (.probeReadIdCompletion b0 b1 b2) s
      = .next (if noMemoryAnswers b0 b1 b2 then (s.setLink s.link.wireDone).probeSilent
          else (s.setLink s.link.wireDone).issue .readStatus).endEvent := by
  simp only [exec, execProbeReadIdCompletion, hr, hw, hs, hold, beq_self_eq_true, Bool.and_self, if_true]
  rfl

theorem exec_readStatusCompletion_probe (hr : s.rstn = true) (hw : s.link.wire = some .readStatus) (hs : s.link.stale = false)
    (hold : s.link.holder = some .probe) (hb : statusBusy st = false) :
    exec (.readStatusCompletion st) s = .next (s.sawStatus st).probeQuiet.endEvent := by
  rw [exec_readStatusCompletion_judged hr hw hs hold rfl, State.judgeStatus, if_neg (by simp [hb])]

theorem exec_probeBusyTimerExpiry (hr : s.rstn = true) (ht : s.control.probeTimer = true) (hold : s.link.holder = some .probe) :
    exec .probeBusyTimerExpiry s = .next ((((s.setLink s.link.abandon).releaseLink).setControl
      { s.control with probeTimer := false }).startupFailed .busyStuck).endEvent := by
  simp only [exec, execProbeBusyTimerExpiry, hr, ht, hold, beq_self_eq_true, Bool.and_self, if_true]

/-! ### MARKER_READ (08 R154, R155) -/

theorem exec_markerReadCompletion {addr : Nat} {bytes : List Byte} (hr : s.rstn = true)
    (hold : s.link.holder = some .markerRead) (hw : s.link.wire = some (.readData addr bytes.length)) :
    exec (.markerReadCompletion bytes) s
      = .next (((s.setLink s.link.wireDone).releaseLink).placeReport bytes).endEvent := by
  simp only [exec, execMarkerReadCompletion, hr, hold, hw, beq_self_eq_true, if_true]

/-- The record of a loss carries the code of the classification. -/
theorem State.recordLoss_eq (s : State) (c : MarkerClass) : s.recordLoss c
    = if c = .unclean ∨ c = .truncated then s.addFault
        { kind := .previousLoss, source := .control, epoch := s.control.epoch, page := some s.markerPage,
          detail := if c = .truncated then 3 else 4 }
      else s := by
  cases c <;> rfl

end

/-! ### The bytes of the marker record (10 R205) -/

theorem join16 (x : BitVec 16) : x.extractLsb' 8 8 ++ x.extractLsb' 0 8 = x := by
  refine BitVec.eq_of_getLsbD_eq fun i hi => ?_
  simp only [BitVec.getLsbD_append, BitVec.getLsbD_extractLsb']
  split
  · rename_i hlow
    rw [decide_eq_true hlow, Bool.true_and, Nat.zero_add]
  · rw [decide_eq_true (by omega), Bool.true_and, Nat.add_sub_cancel' (by omega)]

theorem join24 (x : BitVec 24) : x.extractLsb' 16 8 ++ x.extractLsb' 8 8 ++ x.extractLsb' 0 8 = x := by
  refine BitVec.eq_of_getLsbD_eq fun i hi => ?_
  simp only [BitVec.getLsbD_append, BitVec.getLsbD_extractLsb']
  split
  · rename_i hlow
    rw [decide_eq_true hlow, Bool.true_and, Nat.zero_add]
  · split
    · rename_i hmid
      rw [decide_eq_true hmid, Bool.true_and, Nat.add_sub_cancel' (by omega)]
    · rw [decide_eq_true (by omega), Bool.true_and, show 16 + (i - 8 - 8) = i by omega]

theorem split16 (h l : Byte) : be16 (h ++ l) = [h, l] := by
  have hhigh : (h ++ l).extractLsb' 8 8 = h := BitVec.extractLsb'_append_eq_left
  have hlow : (h ++ l).extractLsb' 0 8 = l := BitVec.extractLsb'_append_eq_right
  rw [be16, hhigh, hlow]

theorem split24 (h m l : Byte) : be24 (h ++ m ++ l) = [h, m, l] := by
  have hlow : (h ++ m ++ l).extractLsb' 0 8 = l := BitVec.extractLsb'_append_eq_right
  have hmid : (h ++ m ++ l).extractLsb' 8 8 = m := by
    refine BitVec.eq_of_getLsbD_eq fun i hi => ?_
    rw [BitVec.getLsbD_extractLsb', BitVec.getLsbD_append, if_neg (by omega), BitVec.getLsbD_append,
      if_pos (by omega), decide_eq_true hi, Bool.true_and, Nat.add_sub_cancel_left]
  have hhigh : (h ++ m ++ l).extractLsb' 16 8 = h := by
    refine BitVec.eq_of_getLsbD_eq fun i hi => ?_
    rw [BitVec.getLsbD_extractLsb', BitVec.getLsbD_append, if_neg (by omega), BitVec.getLsbD_append,
      if_neg (by omega), decide_eq_true hi, Bool.true_and, show 16 + i - 8 - 8 = i by omega]
  rw [be24, hlow, hmid, hhigh]

theorem byteSum_append (bs : List Byte) (x : Byte) : byteSum (bs ++ [x]) = byteSum bs + x := by simp [byteSum]

theorem MarkerRecord.encode_eq (r : MarkerRecord) : r.encode = [0xA5, 0x5A, 0xC3, 0x3C, r.state.code,
    r.bootCount.extractLsb' 8 8, r.bootCount.extractLsb' 0 8, r.atRisk,
    r.firstSeq.extractLsb' 16 8, r.firstSeq.extractLsb' 8 8, r.firstSeq.extractLsb' 0 8,
    r.lastSeq.extractLsb' 16 8, r.lastSeq.extractLsb' 8 8, r.lastSeq.extractLsb' 0 8, r.epoch, 0 - byteSum r.body] := rfl

theorem sum_zero_iff (a x : Byte) : a + x = 0 ↔ 0 - a = x := by
  constructor
  · intro h; bv_omega
  · rintro rfl; bv_omega

/-- The check byte makes the sum 0. -/
theorem MarkerRecord.byteSum_encode (r : MarkerRecord) : byteSum r.encode = 0 := by
  rw [MarkerRecord.encode, byteSum_append, sum_zero_iff]

theorem markerStateOf_code (st : MarkerState) : markerStateOf st.code = some st := by cases st <;> rfl

theorem markerStateOf_some {code : Byte} {st : MarkerState} (h : markerStateOf code = some st) : st.code = code := by
  unfold markerStateOf at h
  split at h
  · obtain rfl := Option.some.inj h; exact Eq.symm ‹_›
  · split at h
    · obtain rfl := Option.some.inj h; exact Eq.symm ‹_›
    · split at h
      · obtain rfl := Option.some.inj h; exact Eq.symm ‹_›
      · cases h

/-- The fields of a record by their places in 16 bytes. -/
def recordAt (bs : List Byte) (st : MarkerState) : MarkerRecord :=
  { state := st, bootCount := bs.getD 5 0 ++ bs.getD 6 0, atRisk := bs.getD 7 0,
    firstSeq := bs.getD 8 0 ++ bs.getD 9 0 ++ bs.getD 10 0, lastSeq := bs.getD 11 0 ++ bs.getD 12 0 ++ bs.getD 13 0,
    epoch := bs.getD 14 0 }

theorem decodeMarker_eq (bs : List Byte) : decodeMarker bs
    = if bs.take 4 = markerSignature ∧ byteSum bs = 0 ∧ (bs.getD 7 0).toNat ≤ 40
      then (markerStateOf (bs.getD 4 0)).map (recordAt bs) else none :=
  if_iff_congr (by simp [Config.maxAtRisk, and_assoc]) rfl rfl

theorem recordAt_encode (r : MarkerRecord) : recordAt r.encode r.state = r := by
  rw [MarkerRecord.encode_eq]
  simp only [recordAt, List.getD_cons_succ, List.getD_cons_zero, join16, join24]

/-- A record is read back from its bytes exactly where its count is at most 40. -/
theorem decodeMarker_encode (r : MarkerRecord) : decodeMarker r.encode = if r.atRisk.toNat ≤ 40 then some r else none := by
  have hrecord : (markerStateOf (r.encode.getD 4 0)).map (recordAt r.encode) = some r := by
    rw [show r.encode.getD 4 0 = r.state.code from rfl, markerStateOf_code, Option.map_some, recordAt_encode]
  rw [decodeMarker_eq, hrecord]
  exact if_iff_congr ⟨fun h => h.2.2, fun h => ⟨rfl, r.byteSum_encode, h⟩⟩ rfl rfl

/-- Sixteen bytes that read as a record are its bytes. -/
theorem encode_of_decodeMarker {bs : List Byte} {r : MarkerRecord} (hlen : bs.length = 16) (h : decodeMarker bs = some r) :
    r.encode = bs ∧ r.atRisk.toNat ≤ 40 := by
  rw [decodeMarker_eq] at h
  split at h
  case isFalse => cases h
  case isTrue hvalid =>
    obtain ⟨hsig, hsum, hrisk⟩ := hvalid
    obtain ⟨st, hst, rfl⟩ := Option.map_eq_some_iff.mp h
    refine ⟨?_, hrisk⟩
    match bs, hlen with
    | [x0, x1, x2, x3, x4, x5, x6, x7, x8, x9, x10, x11, x12, x13, x14, x15], _ =>
      have hbody : (recordAt [x0, x1, x2, x3, x4, x5, x6, x7, x8, x9, x10, x11, x12, x13, x14, x15] st).body
          = [x0, x1, x2, x3, x4, x5, x6, x7, x8, x9, x10, x11, x12, x13, x14] := by
        rw [MarkerRecord.body, ← hsig]
        simp only [recordAt, List.getD_cons_succ, List.getD_cons_zero, split16, split24]
        rw [markerStateOf_some hst]
        rfl
      have hcheck : byteSum [x0, x1, x2, x3, x4, x5, x6, x7, x8, x9, x10, x11, x12, x13, x14] + x15 = 0 := by
        rw [← byteSum_append]
        exact hsum
      rw [MarkerRecord.encode, hbody, (sum_zero_iff _ _).mp hcheck]
      rfl

end Sys2Proof.Machine

open Sys2Proof Sys2Proof.Machine

/-- Settles O43. -/
theorem probeEnds : Obligations.ProbeEnds := by
  unfold Obligations.ProbeEnds
  refine fun s hr => ⟨fun b0 b1 b2 hw hs hold => ⟨fun hno => ?_, fun hzero hones => ?_⟩, ?_, fun b0 b1 b2 hw hs => ?_,
    fun ht hold => ?_⟩
  · rw [exec_probeReadIdCompletion hr hw hs hold, if_pos (noMemoryAnswers_iff.mpr hno)]
    rfl
  · rw [exec_probeReadIdCompletion hr hw hs hold, if_neg (mt noMemoryAnswers_iff.mp (not_or.mpr ⟨hzero, hones⟩))]
    rfl
  · rintro st hw hs hold hb u rfl
    rw [exec_readStatusCompletion_probe hr hw hs hold hb, State.sawStatus_done hb]
    rfl
  · rw [exec_probeReadIdCompletion_stale hr hw hs]
    rfl
  · rw [exec_probeBusyTimerExpiry hr ht hold]
    rfl

/-- Settles O44. -/
theorem markerIsReadAndReported : Obligations.MarkerIsReadAndReported := by
  unfold Obligations.MarkerIsReadAndReported
  rintro s u v bytes addr report hr hold hw hreport rfl rfl
  have hsame : report = reportOf (decodeMarker bytes) := by
    rcases hreport with ⟨hd, rfl⟩ | ⟨r, hd, rfl⟩
    · rw [hd]; rfl
    · rw [hd]
      obtain ⟨st, _⟩ := r
      cases st <;> rfl
  rw [exec_markerReadCompletion hr hold hw, State.placeReport, ← hsame]
  dsimp only
  rw [State.recordLoss_eq]
  rw [State.markerPage_congr (s := s) rfl]
  split <;> rfl

/-- Settles O45: the bytes by their places, the sum by the check byte, and 16 valid bytes field by field. -/
theorem markerRecordRoundTrip : Obligations.MarkerRecordRoundTrip := by
  unfold Obligations.MarkerRecordRoundTrip
  refine ⟨fun r => ⟨r.state.code, 0 - byteSum r.body, r.encode_eq, by cases r.state <;> rfl⟩,
    fun r h => by rw [decodeMarker_encode, if_pos h], fun bs r => encode_of_decodeMarker,
    fun r => ⟨rfl, r.byteSum_encode, rfl⟩, fun r h => by rw [decodeMarker_encode, if_neg (Nat.not_le.mpr h)], fun bs h => ?_⟩
  rw [decodeMarker_eq]
  split
  case isFalse => rfl
  case isTrue hvalid =>
    obtain ⟨hsig, hsum, hrisk⟩ := hvalid
    rcases h with h | h | ⟨h1, h2, h3⟩ | h
    · exact absurd hsig h
    · exact absurd hsum h
    · rw [markerStateOf, if_neg h1, if_neg h2, if_neg h3]
      rfl
    · exact absurd hrisk (Nat.not_le.mpr h)
end


section
/-! PROOF. The marker write: its record at the grant and its ends in each bridge mode (08 R156 to R171; 07 R147; O46). -/
namespace Sys2Proof.Machine

section
variable {s t : State} {c : Instr} {l : Link} {m : SerialMemory} {r : FailReason}

/-! ### The record of the PF_DRAIN marker write (08 R167) -/

theorem State.retains_iff {x : Seq} : x ∈ s.retainedSeqs ↔ s.Retains x := by
  have hbuf (b : PageBuffer) : x ∈ (if b.state == .free then [] else [b.firstSeq]) ↔ b.state ≠ .free ∧ b.firstSeq = x := by
    by_cases h : b.state = .free
    · simp [h]
    · rw [if_neg (by simpa using h)]
      simp [h, eq_comm]
  rw [State.retainedSeqs, List.mem_append, List.mem_append, hbuf, hbuf, or_assoc, State.Retains, State.exists_buf,
    List.mem_map]
  rfl

theorem State.atRiskLines_eq {lines : List Nat} (hd : lines.Nodup)
    (h : ∀ l, l ∈ lines ↔ (∃ e ∈ s.queue.entries, e.line = l) ∨ ∃ b, (s.buf b).Carries l) : s.atRiskLines = lines.length := by
  refine length_eq_of_same_lines (nodup_distinct _) hd fun l => ?_
  rw [h, mem_distinct, List.mem_append, List.mem_append, PageBuffer.mem_lines, PageBuffer.mem_lines, or_assoc,
    State.exists_buf, List.mem_map]
  rfl

theorem seq_sub_cancel {n a b : Seq} (h : n - a = n - b) : a = b := by bv_omega

/-- The earliest of the numbers retained is the one farthest behind the counter, and no other is as far. -/
theorem State.firstRetained_eq {x : Seq} (h : s.Retains x)
    (hmax : ∀ y, s.Retains y → (s.queue.counter - y).toNat ≤ (s.queue.counter - x).toNat) :
    (match s.retainedSeqs with
      | [] => 0
      | y :: rest => seqEarliest s.queue.counter y rest) = x := by
  have hmem : x ∈ s.retainedSeqs := State.retains_iff.mpr h
  cases hl : s.retainedSeqs with
  | nil => rw [hl] at hmem; cases hmem
  | cons y rest =>
    obtain ⟨hin, hfar⟩ := seqEarliest_spec s.queue.counter y rest
    have hle := hmax _ (State.retains_iff.mp (hl ▸ hin))
    have hge := hfar x (hl ▸ hmem)
    have hage : s.queue.counter - seqEarliest s.queue.counter y rest = s.queue.counter - x :=
      BitVec.eq_of_toNat_eq (Nat.le_antisymm hle hge)
    exact seq_sub_cancel hage

/-- The record that the grant fixes is the only one that 08 R167 allows. -/
theorem State.IsDrainRecord.eq {r : MarkerRecord} (h : s.IsDrainRecord r) : s.drainRecord = r := by
  obtain ⟨lines, hd, hrisk, hlines⟩ := h.atRisk
  have hkept : s.drainRecord.state = r.state ∧ s.drainRecord.firstSeq = r.firstSeq := by
    by_cases hnone : s.nothingRetained = true
    · obtain ⟨hq, hb⟩ := State.nothingRetained_iff.mp hnone
      obtain ⟨hstate, hfirst⟩ := h.clean hq hb
      have hseqs : s.retainedSeqs = [] := by
        refine List.eq_nil_iff_forall_not_mem.mpr fun x hx => ?_
        rcases State.retains_iff.mp hx with ⟨e, he, -⟩ | ⟨b, hne, -⟩
        · rw [hq] at he; cases he
        · exact hne (hb b)
      rw [hstate, hfirst]
      exact ⟨if_pos hnone, by rw [State.drainRecord, hseqs]⟩
    · have hheld : s.queue.entries ≠ [] ∨ ∃ b, (s.buf b).state ≠ .free := by
        by_cases hq : s.queue.entries = []
        · exact .inr (Classical.not_forall.mp fun hb => hnone (State.nothingRetained_iff.mpr ⟨hq, hb⟩))
        · exact .inl hq
      obtain ⟨hstate, hin, hfar⟩ := h.truncated hheld
      exact ⟨(if_neg hnone).trans hstate.symm, State.firstRetained_eq hin hfar⟩
  have hcount : s.drainRecord.atRisk = r.atRisk := by rw [hrisk, ← State.atRiskLines_eq hd hlines]; rfl
  have hlast := h.lastSeq
  have hboot := h.bootCount
  have hepoch := h.epoch
  obtain ⟨hstate, hfirst⟩ := hkept
  cases r with
  | mk state boot risk first last epoch =>
    dsimp only at hstate hfirst hcount hlast hboot hepoch
    rw [← hstate, ← hfirst, ← hcount, hlast, hboot, hepoch]
    rfl

/-! ### The grant (08 R156, R167, R171; 07 R147) -/

/-- A marker write's grant with its record: what is left for PF_DRAIN is the FLUSH that it truncates. -/
theorem State.grant_markerWrite {r : MarkerRecord} {m : Maint} (hr : s.markerRecord = r)
    (hm : m = if s.control.mode = .pfDrain ∧ s.maint.slot = .flush ∧ s.flushRemains = true then s.maint.complete
      (if s.flushBlocked then .blockedHeld else .truncated) (be24 s.control.flushMark ++ [BitVec.ofNat 8 s.flushLines])
      else s.maint) :
    s.grant .markerWrite = (((s.setLink { s.link with holder := some .markerWrite }).setControl { s.control with
      request := none, marker := { record := r }, bootCount := r.bootCount }).setMaint m).startMarkerAttempt := by
  have hfixed : s.grant .markerWrite = (if s.control.mode = .pfDrain then
      ((s.setLink { s.link with holder := some .markerWrite }).setControl { s.control with
        request := none, marker := { record := r }, bootCount := r.bootCount }).truncateFlush
      else (s.setLink { s.link with holder := some .markerWrite }).setControl { s.control with
        request := none, marker := { record := r }, bootCount := r.bootCount }).startMarkerAttempt := by
    subst hr
    exact congrArg State.startMarkerAttempt (if_iff_congr beq_iff_eq rfl rfl)
  rw [hfixed, hm]
  congr 1
  by_cases hmode : s.control.mode = .pfDrain
  · rw [if_pos hmode]
    by_cases hflush : s.maint.slot = .flush ∧ s.flushRemains = true
    · rw [if_pos ⟨hmode, hflush⟩]
      exact if_pos (Bool.and_eq_true_iff.mpr ⟨beq_iff_eq.mpr hflush.1, hflush.2⟩)
    · rw [if_neg fun h => hflush h.2]
      exact if_neg fun h => hflush ⟨beq_iff_eq.mp (Bool.and_eq_true_iff.mp h).1, (Bool.and_eq_true_iff.mp h).2⟩
  · rw [if_neg hmode, if_neg fun h => hmode h.1]
    rfl

/-! ### The commands that end an attempt (08 R156; 04 R79) -/

theorem exec_verifyRead_marker {addr : Nat} {bytes : List Byte} (hr : s.rstn = true)
    (hold : s.link.holder = some .markerWrite) (hw : s.link.wire = some (.readData addr bytes.length)) :
    exec (.verifyReadCompletion bytes) s
      = .next (if bytes == s.control.marker.record.encode then (s.setLink s.link.wireDone).markerSuccess
          else (s.setLink s.link.wireDone).markerAttemptFailed .verifyMismatch).endEvent := by
  simp only [exec, execVerifyReadCompletion, hr, hold, hw, beq_self_eq_true, if_true]

theorem exec_programTimerExpiry_marker (hr : s.rstn = true) (hold : s.link.holder = some .markerWrite)
    (ht : s.link.programTimer.isSome = true) :
    exec .programTimerExpiry s = .next ((s.setLink s.link.timedOut).markerAttemptFailed .timeout).endEvent := by
  simp only [exec, execProgramTimerExpiry, hr, hold, ht, Bool.and_self, if_true]

theorem State.MarkerSucceeds.exec_eq (h : s.MarkerSucceeds c l m) :
    exec c s = .next ((s.setLink l).setMemory m).markerSuccess.endEvent := by
  cases h with
  | status st hp hbusy hfail hv =>
    rw [exec_readStatusCompletion_marker hp.high hp.wire hp.judged hp.holder hp.written hbusy,
      State.judgeMarker_success hfail (by exact hv)]
    rfl
  | verify addr hr hold hw =>
    rw [exec_verifyRead_marker hr hold hw, if_pos (by simp)]
    rfl

theorem State.MarkerFails.exec_eq (h : s.MarkerFails c r l m) :
    exec c s = .next (((s.setLink l).setMemory m).markerAttemptFailed r).endEvent := by
  cases h with
  | status st hp hbusy hfail =>
    rw [exec_readStatusCompletion_marker hp.high hp.wire hp.judged hp.holder hp.written hbusy,
      State.judgeMarker_failed hfail]
    rfl
  | verify bytes addr hr hold hw hne =>
    rw [exec_verifyRead_marker hr hold hw, if_neg (by simpa using hne)]
    rfl
  | timer hr hold ht =>
    rw [exec_programTimerExpiry_marker hr hold ht]
    rfl

/-! ### What follows in each bridge mode (08 R157, R158, R162, R164, R168, R170, R171) -/

theorem State.markerSuccess_starting (hm : t.control.mode = .starting) : t.markerSuccess
    = (t.setLink t.link.freed).changeMode (if t.control.stopPending then .pfDone else .running) := by
  unfold State.markerSuccess
  rw [hm]
  rfl

theorem State.markerSuccess_pfDrain (hm : t.control.mode = .pfDrain) : t.markerSuccess
    = (t.setLink t.link.freed).changeMode (if t.control.resumePending then .resuming else .pfDone) := by
  unfold State.markerSuccess
  rw [hm]
  rfl

theorem State.markerSuccess_resuming (hm : t.control.mode = .resuming) : t.markerSuccess
    = if t.control.filtered then (t.setLink t.link.freed).enterPfDrain else (t.setLink t.link.freed).changeMode .running := by
  unfold State.markerSuccess
  rw [hm]
  rfl

/-- The reason of a failed attempt is kept with the marker write. -/
def State.markerReason (t : State) (r : FailReason) : State :=
  t.setControl { t.control with marker := { t.control.marker with failure := some r } }

theorem State.markerAttemptFailed_retry (hm : t.control.mode ≠ .pfDrain) (ha : t.control.marker.attempts < t.retryLimit) :
    t.markerAttemptFailed r = (t.markerReason r).startMarkerAttempt := by
  refine if_neg ?_
  rw [Bool.or_eq_true, beq_iff_eq, decide_eq_true_eq, not_or]
  exact ⟨hm, Nat.not_le.mpr ha⟩

theorem State.markerAttemptFailed_last (h : t.control.mode = .pfDrain ∨ t.retryLimit ≤ t.control.marker.attempts) :
    t.markerAttemptFailed r = (t.markerReason r).markerGivenUp r := by
  refine if_pos ?_
  rw [Bool.or_eq_true, beq_iff_eq, decide_eq_true_eq]
  exact h

/-- MARKER_FAILED with the attempts made and the reason. -/
def State.markerFault (t : State) (r : FailReason) : FaultRecord :=
  { kind := .markerFailed, source := .control, epoch := t.control.epoch, page := some t.markerPage,
    detail := BitVec.ofNat 8 t.control.marker.attempts ||| (r.code <<< 3) }

theorem State.markerGivenUp_starting (hm : t.control.mode = .starting) : t.markerGivenUp r
    = ((t.setLink t.link.freed).addFault
        { kind := .startupFailed, source := .control, epoch := t.control.epoch, page := some t.markerPage,
          detail := 2 ||| (r.code <<< 3) }).changeMode .failed := by
  unfold State.markerGivenUp
  rw [hm]
  rfl

theorem State.markerGivenUp_pfDrain (hm : t.control.mode = .pfDrain) : t.markerGivenUp r
    = ((t.setLink t.link.freed).addFault (t.markerFault r)).changeMode
        (if t.control.resumePending then .resuming else .pfDone) := by
  unfold State.markerGivenUp
  rw [hm]
  rfl

theorem State.markerGivenUp_resuming (hm : t.control.mode = .resuming) : t.markerGivenUp r
    = if t.control.filtered then ((t.setLink t.link.freed).addFault (t.markerFault r)).enterPfDrain
      else ((t.setLink t.link.freed).addFault (t.markerFault r)).changeMode .running := by
  unfold State.markerGivenUp
  rw [hm]
  rfl

end
end Sys2Proof.Machine

open Sys2Proof Sys2Proof.Machine

/-- Settles O46: the record of each mode at the grant, and the ends of an attempt mode by mode. -/
theorem markerWriteEnds : Obligations.MarkerWriteEnds := by
  unfold Obligations.MarkerWriteEnds
  refine ⟨fun s r m hr hm => ?_, fun s c l m => ⟨?_, ?_⟩⟩
  · refine State.grant_markerWrite ?_ hm
    unfold State.markerRecord
    rcases hr with ⟨hmode, h⟩ | ⟨hmode, rfl⟩ | ⟨hmode, rfl⟩
    · rw [hmode]; exact h.eq
    · rw [hmode]; rfl
    · rw [hmode]; rfl
  · rintro u h rfl
    rw [h.exec_eq]
    refine ⟨fun hm => ?_, fun hm => ?_, fun hm => ?_⟩
    · rw [State.markerSuccess_starting (by exact hm)]; rfl
    · rw [State.markerSuccess_pfDrain (by exact hm)]; rfl
    · rw [State.markerSuccess_resuming (by exact hm)]; rfl
  · rintro r u v detail h hu rfl rfl
    obtain rfl : u = ((s.setLink l).setMemory m).markerReason r := hu
    rw [h.exec_eq]
    refine ⟨fun hm ha => ?_, fun hm ha => ?_, fun hm => ?_, ?_⟩
    · rw [State.markerAttemptFailed_retry (by exact hm) (by exact ha)]
    · rw [State.markerAttemptFailed_last (.inr (by exact ha)), State.markerGivenUp_starting (by exact hm)]; rfl
    · rw [State.markerAttemptFailed_last (.inl (by exact hm)), State.markerGivenUp_pfDrain (by exact hm)]; rfl
    · rintro hm ha w rfl
      rw [State.markerAttemptFailed_last (.inr (by exact ha)), State.markerGivenUp_resuming (by exact hm)]; rfl
end


section
/-! PROOF. The PFAILn pin, its filter, and the fall and the rise of RSTn (08 R149, R160 to R172; 07 R142; 11 R206; O47 to
O49). -/
namespace Sys2Proof.Machine

section
variable {s u : State}

/-! ### The pin and the two filters (08 R160, R161, R170) -/

theorem exec_pfailn (hr : s.rstn = true) (low : Bool) (hl : s.control.pfailLow = !low) :
    exec (if low then .pfailnFall else .pfailnRise) s = .next (s.setControl
      { s.control with pfailLow := low, filterTimer := low != s.control.filtered }) := by
  cases low with
  | true =>
    refine congrArg Host.Outcome.next ((if_neg (by simp [hl])).trans ?_)
    rw [hr]
    cases s.control.filtered <;> rfl
  | false =>
    refine congrArg Host.Outcome.next ((if_pos hl).trans ?_)
    rw [hr]
    cases s.control.filtered <;> rfl

theorem exec_filteredAssertion (hr : s.rstn = true) (ht : s.control.filterTimer = true) (hl : s.control.pfailLow = true)
    (hf : s.control.filtered = false) : exec .filteredAssertion s
      = .next ((s.setControl { s.control with filtered := true, filterTimer := false }).onAssertion).endEvent :=
  congrArg Host.Outcome.next (if_pos (by simp [hr, ht, hl, hf]))

theorem exec_filteredRelease (hr : s.rstn = true) (ht : s.control.filterTimer = true) (hl : s.control.pfailLow = false)
    (hf : s.control.filtered = true) : exec .filteredRelease s
      = .next ((s.setControl { s.control with filtered := false, filterTimer := false }).onRelease).endEvent :=
  congrArg Host.Outcome.next (if_pos (by simp [hr, ht, hl, hf]))

theorem State.controlOnLink_iff : s.controlOnLink = true ↔ s.link.holder = some .probe ∨ s.link.holder = some .markerRead
    ∨ s.link.holder = some .markerWrite ∨ s.link.holder = some (.settle .control) := by
  unfold State.controlOnLink
  cases s.link.holder with
  | none => decide
  | some op =>
    cases op with
    | settle k => cases k <;> decide
    | fetch | program => simp
    | probe | markerRead | markerWrite | directId | directStatus | directRead | directWrite => decide

/-! ### Entry to PF_DRAIN (08 R161, R164, R165; 07 R142; 05 R111) -/

/-- What an APPLY in progress and a waiting direct request leave when PF_DRAIN ends them. -/
def State.abortedMaint (s : State) : Maint :=
  let m := if s.control.mode = .applying then s.maint.complete .abortedPfail [s.control.epoch] else s.maint
  if m.direct.waiting then
    ({ m with direct := { m.direct with waiting := false } } : Maint).complete .abortedPfail []
  else m

theorem State.abortDirect_setMaint (s : State) (m : Maint) : (s.setMaint m).abortDirect = s.setMaint
    (if m.direct.waiting then ({ m with direct := { m.direct with waiting := false } } : Maint).complete .abortedPfail []
      else m) := by
  unfold State.abortDirect
  rw [State.setMaint_maint]
  cases h : m.direct.waiting <;> rfl

theorem State.abortApplyPfail_eq : s.abortApplyPfail = s.setMaint
    (if s.control.mode = .applying then s.maint.complete .abortedPfail [s.control.epoch] else s.maint) := by
  unfold State.abortApplyPfail
  by_cases h : s.control.mode = .applying
  · rw [if_pos h, if_pos (beq_iff_eq.mpr h)]; rfl
  · rw [if_neg h, if_neg (mt beq_iff_eq.mp h)]; rfl

theorem State.aborted_eq : s.abortApplyPfail.abortDirect = s.setMaint s.abortedMaint := by
  rw [State.abortApplyPfail_eq, State.abortDirect_setMaint]
  rfl

/-- The part in PF_DRAIN but for what its entry does to the ports. -/
def State.pfDrained (s : State) : State :=
  (((s.setQueue s.queue.closeAll).setDrain { s.drain with chargeable := false }).setMaint s.abortedMaint).setControl
    { s.control with
      mode := .pfDrain, budget := s.holdUpBudget, stopPending := false, resumePending := false, fromStarting := false
      request := none }

theorem State.enterPfDrain_eq : s.enterPfDrain = s.pfDrained.portsOnMode s.control.mode .pfDrain := by
  unfold State.enterPfDrain
  dsimp only
  rw [State.aborted_eq]
  rfl

/-- From RUNNING or APPLYING the pending writes are refused. -/
theorem State.enterPfDrain_refuses (h : s.control.mode = .running ∨ s.control.mode = .applying) :
    s.enterPfDrain = s.pfDrained.writesRefused := by
  rw [State.enterPfDrain_eq, State.writesRefused_eq]
  rcases h with h | h <;> rw [h] <;> rfl

theorem State.enterPfDrain_resuming (h : s.control.mode = .resuming) : s.enterPfDrain = s.pfDrained := by
  rw [State.enterPfDrain_eq, h]
  rfl

/-- The fields of the part in PF_DRAIN that the ports do not touch. -/
theorem State.enterPfDrain_fields
    (h : s.control.mode = .running ∨ s.control.mode = .applying ∨ s.control.mode = .resuming) :
    s.enterPfDrain.control.mode = .pfDrain ∧ s.enterPfDrain.control.budget = s.holdUpBudget
      ∧ s.enterPfDrain.queue = s.queue.closeAll ∧ s.enterPfDrain.drain = { s.drain with chargeable := false }
      ∧ s.enterPfDrain.maint = s.abortedMaint := by
  rcases h with h | h | h
  · rw [State.enterPfDrain_refuses (.inl h)]; exact ⟨rfl, rfl, rfl, rfl, rfl⟩
  · rw [State.enterPfDrain_refuses (.inr h)]; exact ⟨rfl, rfl, rfl, rfl, rfl⟩
  · rw [State.enterPfDrain_resuming h]; exact ⟨rfl, rfl, rfl, rfl, rfl⟩

theorem State.abortedMaint_apply (hm : s.control.mode = .applying) (hw : s.maint.direct.waiting = false) :
    s.abortedMaint = s.maint.complete .abortedPfail [s.control.epoch] := by
  unfold State.abortedMaint
  dsimp only
  rw [if_pos hm]
  exact if_neg (by simp [Maint.complete, hw])

theorem State.abortedMaint_direct (hm : s.control.mode ≠ .applying) (hw : s.maint.direct.waiting = true) : s.abortedMaint
    = ({ s.maint with direct := { s.maint.direct with waiting := false } } : Maint).complete .abortedPfail [] := by
  unfold State.abortedMaint
  dsimp only
  rw [if_neg hm]
  exact if_pos hw

theorem State.abortedMaint_none (hm : s.control.mode ≠ .applying) (hw : s.maint.direct.waiting = false) :
    s.abortedMaint = s.maint := by
  unfold State.abortedMaint
  dsimp only
  rw [if_neg hm]
  exact if_neg (by simp [hw])

/-! ### What an assertion and a release do in each bridge mode (08 R162 to R164, R170) -/

theorem State.onAssertion_enters (h : s.control.mode = .running ∨ s.control.mode = .applying
    ∨ (s.control.mode = .resuming ∧ s.link.holder ≠ some .markerWrite)) : s.onAssertion = s.enterPfDrain := by
  unfold State.onAssertion
  rcases h with h | h | ⟨h, hold⟩
  · rw [h]
  · rw [h]
  · rw [h]
    exact if_neg (by simpa using hold)

theorem State.onAssertion_starting (h : s.control.mode = .starting) : s.onAssertion
    = if s.controlOnLink then s.setControl { s.control with stopPending := true } else s.changeMode .pfDone := by
  unfold State.onAssertion
  rw [h]

theorem State.onAssertion_pfDrain (h : s.control.mode = .pfDrain) :
    s.onAssertion = s.setControl { s.control with resumePending := false } := by
  unfold State.onAssertion
  rw [h]

theorem State.onAssertion_none (h : s.control.mode = .pfDone ∨ s.control.mode = .failed
    ∨ (s.control.mode = .resuming ∧ s.link.holder = some .markerWrite)) : s.onAssertion = s := by
  unfold State.onAssertion
  rcases h with h | h | ⟨h, hold⟩
  · rw [h]
  · rw [h]
  · rw [h]
    exact if_pos (by simp [hold])

theorem State.onRelease_pfDrain (h : s.control.mode = .pfDrain) : s.onRelease
    = if s.link.holder = some .markerWrite then s.setControl { s.control with resumePending := true }
      else s.changeMode .running := by
  unfold State.onRelease
  rw [h]
  exact if_iff_congr beq_iff_eq rfl rfl

theorem State.onRelease_pfDone (h : s.control.mode = .pfDone) :
    s.onRelease = s.changeMode (if s.control.fromStarting then .starting else .resuming) := by
  unfold State.onRelease
  rw [h]

theorem State.onRelease_starting (h : s.control.mode = .starting) :
    s.onRelease = s.setControl { s.control with stopPending := false } := by
  unfold State.onRelease
  rw [h]

theorem State.onRelease_none (h : s.control.mode = .running ∨ s.control.mode = .applying ∨ s.control.mode = .resuming
    ∨ s.control.mode = .failed) : s.onRelease = s := by
  unfold State.onRelease
  rcases h with h | h | h | h <;> rw [h]

theorem Mode.firstRequest_eq (m : Mode) :
    m.firstRequest = if m = .starting then some .probe else if m = .resuming then some .markerWrite else none := by
  cases m <;> rfl

theorem State.changeMode_control (s : State) (m : Mode) : (s.changeMode m).control = { s.control with
    mode := m, stopPending := false, resumePending := false
    fromStarting := Decidable.decide (m = .pfDone ∧ (s.control.mode = .starting ∨ s.control.mode = .failed))
    request := if m = .starting then some .probe else if m = .resuming then some .markerWrite else none } := by
  have hfrom : (m == .pfDone && (s.control.mode == .starting || s.control.mode == .failed))
      = Decidable.decide (m = .pfDone ∧ (s.control.mode = .starting ∨ s.control.mode = .failed)) := by
    rw [Bool.eq_iff_iff]
    simp
  simp only [State.changeMode, State.portsOnMode_frame, State.setControl_control, Control.enter, hfrom, Mode.firstRequest_eq]

/-! ### The fall and the rise of RSTn (05 R96, R98; 08 R151, R152, R172; 11 R206) -/

theorem SerialMemory.cut_other (m : SerialMemory) (now : Nat) {wire : Option MemOp}
    (h : ∀ addr data, wire ≠ some (.pageWrite addr data)) : m.cut wire now = m := by
  unfold SerialMemory.cut
  split
  · exact absurd rfl (h _ _)
  · rfl

theorem SerialMemory.cut_pageWrite (m : SerialMemory) (now addr : Nat) (data : List Byte) :
    m.cut (some (.pageWrite addr data)) now = if data.take (Config.cutPageWriteBytes now) = [] then m
      else m.pageWrite addr (data.take (Config.cutPageWriteBytes now)) :=
  if_iff_congr List.isEmpty_iff rfl rfl

/-- PROBE is granted in the event of the rise. -/
theorem State.riseReset_endEvent (s : State) (st : Straps) (a b ssn : Bool) : (s.riseReset st a b ssn).endEvent
    = { State.reset with
      rstn := true
      straps := st
      shadow := ConfigSet.coldReset st
      active := ConfigSet.coldReset st
      ports := { a := { state := if a then .ending else .idle }, b := { state := if b then .ending else .idle } }
      control := { State.reset.control with
        pfailLow := s.control.pfailLow, filterTimer := s.control.pfailLow, probeTimer := true }
      link := { holder := some .probe, wire := some .readId }
      maint := { awaitSsn := ssn }
      memory := s.memory, now := s.now + 2, pending := s.pending } := rfl

end
end Sys2Proof.Machine

open Sys2Proof Sys2Proof.Machine

/-- Settles O47: the mode decides what the assertion does, and the entry to PF_DRAIN is `State.pfDrained` with the pending
writes refused. -/
theorem assertionEntersPfDrain : Obligations.AssertionEntersPfDrain := by
  unfold Obligations.AssertionEntersPfDrain
  refine ⟨fun s => State.controlOnLink_iff, fun s hr => exec_pfailn hr, ?_⟩
  rintro s u v hr ht hl hf rfl rfl
  rw [exec_filteredAssertion hr ht hl hf]
  refine ⟨fun hm => ?_, fun hm => ?_, fun hm => ?_, fun hm => ?_⟩
  · have hmodes : s.control.mode = .running ∨ s.control.mode = .applying ∨ s.control.mode = .resuming :=
      hm.imp id (Or.imp id And.left)
    obtain ⟨hmode, hbudget, hqueue, hdrain, hmaint⟩ := State.enterPfDrain_fields
      (s := s.setControl { s.control with filtered := true, filterTimer := false }) hmodes
    have hrefuses (h : s.control.mode ≠ .resuming) := State.enterPfDrain_refuses
      (s := s.setControl { s.control with filtered := true, filterTimer := false })
      (hmodes.imp id fun h' => h'.resolve_right h)
    have hresuming (h : s.control.mode = .resuming) := State.enterPfDrain_resuming
      (s := s.setControl { s.control with filtered := true, filterTimer := false }) h
    refine ⟨by rw [State.onAssertion_enters (by exact hm)], hmode, hbudget, by rw [hqueue]; rfl, by rw [hqueue]; rfl,
      hdrain, fun h p => ?_, fun h => ?_, fun h => ?_, fun h hw => ?_, fun h hw => ?_, fun h hw => ?_⟩
    · rw [hrefuses h]
      cases p <;> rfl
    · rw [hrefuses h]
      rfl
    · rw [hresuming h]
      exact ⟨rfl, rfl⟩
    · rw [hmaint]; exact State.abortedMaint_apply h hw
    · rw [hmaint]; exact State.abortedMaint_direct h hw
    · rw [hmaint]; exact State.abortedMaint_none h hw
  · rw [State.onAssertion_starting (by exact hm)]
    rfl
  · rw [State.onAssertion_pfDrain (by exact hm)]
  · rw [State.onAssertion_none (by exact hm)]

/-- Settles O48. -/
theorem releaseResumes : Obligations.ReleaseResumes := by
  unfold Obligations.ReleaseResumes
  refine ⟨State.changeMode_control, ?_⟩
  rintro s u hr ht hl hf rfl
  rw [exec_filteredRelease hr ht hl hf]
  refine ⟨fun hm => ?_, fun hm => ?_, fun hm => ?_, fun hm => ?_⟩
  · rw [State.onRelease_pfDrain (by exact hm)]
    rfl
  · rw [State.onRelease_pfDone (by exact hm)]
    rfl
  · rw [State.onRelease_starting (by exact hm)]
  · rw [State.onRelease_none (by exact hm)]

/-- Settles O49: the rise ends with the grant of PROBE, and the outputs are those of the cold-reset state. -/
theorem resetFallsAndRises : Obligations.ResetFallsAndRises := by
  unfold Obligations.ResetFallsAndRises
  refine ⟨fun m now => ⟨fun wire => m.cut_other now, ?_⟩, fun s => exec_rstnFall, fun s t hr he => ?_,
    fun s size1 size0 dclass a b ssn hr => ?_⟩
  · rintro addr data got rfl
    exact m.cut_pageWrite now addr data
  · rw [exec_rstnFall hr] at he
    obtain rfl := Host.Outcome.next.inj he
    exact ⟨fun p => by cases p <;> exact ⟨rfl, rfl, rfl⟩, rfl, fun half => rfl, fun k => rfl,
      fun ssn => ⟨State.sdo_reset rfl ssn, fun j => by rw [State.sdoHigh, State.sdo_reset rfl]; rfl⟩, rfl⟩
  · rw [exec_rstnRise hr, State.riseReset_endEvent]
end


section
/-! PROOF. The frames of the maintenance link, bytes and levels, encoded and decoded (10 R187 to R190, R199; O55). -/
namespace Sys2Proof.Machine

/-! ### An item and its ten bytes (10 R198) -/

/-- The first `n` bytes of `bs`, byte 0 at the high end. -/
def joinedBytes (bs : List Byte) (n : Nat) : Item :=
  (List.range n).foldl (fun acc i => (acc <<< 8) ||| (bs.getD i 0).setWidth 80) 0

theorem joinedBytes_succ (bs : List Byte) (n : Nat) :
    joinedBytes bs (n + 1) = (joinedBytes bs n <<< 8) ||| (bs.getD n 0).setWidth 80 := by
  simp [joinedBytes, List.range_succ]

theorem joinedBytes_getLsbD (bs : List Byte) (n : Nat) {i : Nat} (hi : i < 8 * n) (h80 : i < 80) :
    (joinedBytes bs n).getLsbD i = (bs.getD (n - 1 - i / 8) 0).getLsbD (i % 8) := by
  induction n generalizing i with
  | zero => omega
  | succ n ih =>
    rw [joinedBytes_succ, BitVec.getLsbD_or, BitVec.getLsbD_shiftLeft, BitVec.getLsbD_setWidth, decide_eq_true h80,
      Bool.true_and, Bool.true_and]
    by_cases hlow : i < 8
    · rw [decide_eq_true hlow, Bool.not_true, Bool.false_and, Bool.false_or, Nat.mod_eq_of_lt hlow,
        Nat.div_eq_of_lt hlow]
      rfl
    · have hbyte : (bs.getD n 0).getLsbD i = false := BitVec.getLsbD_of_ge _ _ (by omega)
      rw [decide_eq_false hlow, Bool.not_false, Bool.true_and, hbyte, Bool.or_false, ih (by omega) (by omega),
        show n - 1 - (i - 8) / 8 = n + 1 - 1 - i / 8 by omega, show (i - 8) % 8 = i % 8 by omega]

theorem itemByte_getLsbD (it : Item) {k j : Nat} (hj : j < 8) : (itemByte it k).getLsbD j = it.getLsbD (72 - 8 * k + j) := by
  rw [itemByte, BitVec.getLsbD_extractLsb', decide_eq_true hj, Bool.true_and]

theorem itemBytes_getD (it : Item) (later : List Byte) {k : Nat} (hk : k < 10) :
    (itemBytes it ++ later).getD k 0 = itemByte it k := by
  simp [itemBytes, List.getD, List.getElem?_append_left, hk]

/-- An item reads back from its ten bytes, whatever follows them. -/
theorem itemOfBytes_itemBytes (it : Item) (later : List Byte) : itemOfBytes (itemBytes it ++ later) = it := by
  refine BitVec.eq_of_getLsbD_eq fun i hi => ?_
  rw [show itemOfBytes (itemBytes it ++ later) = joinedBytes (itemBytes it ++ later) 10 from rfl,
    joinedBytes_getLsbD _ _ hi hi, itemBytes_getD _ _ (by omega), itemByte_getLsbD _ (Nat.mod_lt _ (by decide))]
  congr 1
  omega

theorem argFlags_flagBytes (line : BitVec 24) (flags : BitVec 32) (data : List Byte) :
    argFlags (be24 line ++ flagBytes flags ++ data) = flags := by
  show flags.extractLsb' 24 8 ++ flags.extractLsb' 16 8 ++ flags.extractLsb' 8 8 ++ flags.extractLsb' 0 8 = flags
  rw [BitVec.extractLsb'_append_extractLsb'_eq_extractLsb' (by rfl),
    BitVec.extractLsb'_append_extractLsb'_eq_extractLsb' (by rfl),
    BitVec.extractLsb'_append_extractLsb'_eq_extractLsb' (by rfl)]
  exact BitVec.extractLsb'_eq_self

/-! ### The levels on SDI (10 R187) -/

theorem wireBytes_eq {bytes : List Byte} {sdi : List Bool} {bits : Nat} (hbits : bits < 8)
    (hlen : sdi.length = 8 * bytes.length + bits)
    (h : ∀ i j, i < bytes.length → j < 8 → sdi[8 * i + j]? = some ((bytes.getD i 0).getLsbD (7 - j))) :
    wireBytes sdi = bytes := by
  have hwhole : sdi.length / 8 = bytes.length := by omega
  refine List.ext_getElem (by simp [wireBytes, hwhole]) fun i _ hi => ?_
  simp only [wireBytes, List.getElem_map, List.getElem_range]
  refine BitVec.eq_of_getLsbD_eq fun j hj => ?_
  have hbit := wireByte_getLsbD (fun k => sdi.getD k false) (8 * i) (j := 7 - j) (by omega)
  rw [show 7 - (7 - j) = j by omega] at hbit
  rw [hbit, List.getD_eq_getElem?_getD, h i (7 - j) hi (by omega), show 7 - (7 - j) = j by omega, Option.getD_some,
    List.getD_eq_getElem?_getD, List.getElem?_eq_getElem hi, Option.getD_some]

theorem sdiLevels_getElem? (bytes : List Byte) {i j : Nat} (hi : i < bytes.length) (hj : j < 8) :
    (sdiLevels bytes)[8 * i + j]? = some ((bytes.getD i 0).getLsbD (7 - j)) := by
  have hlt : 8 * i + j < 8 * bytes.length := by omega
  rw [sdiLevels, List.getElem?_map, List.getElem?_range hlt, Option.map_some, wireBit_eq,
    show (8 * i + j) / 8 = i by omega, show (8 * i + j) % 8 = j by omega]

/-! ### The bytes of a command (10 R188, R190, R199) -/

/-- A code that names no command. -/
theorem decodeCommand_unknown {code : Byte} (h : argBytes code = none) (args : List Byte) :
    decodeCommand code args = .unknownCommand code := by
  unfold decodeCommand
  split <;> simp_all [argBytes]

/-- `code` and `args` are the bytes of `c`: its code fixes as many argument bytes, and `c` is read from them. -/
structure FrameOf (c : Instr) (code : Byte) (args : List Byte) : Prop where
  args_length : (argBytes code).getD 0 = args.length
  decodes : ∀ later, decodeCommand code (args ++ later) = c

theorem FrameOf.directWrite (line : BitVec 24) (flags : BitVec 32) {data : List Byte} (h : data.length = 32) :
    FrameOf (.directWrite line flags data) 0x3B (be24 line ++ flagBytes flags ++ data) where
  args_length := by simp [be24, flagBytes, h, argBytes]
  decodes later := by
    have hline : argLine (be24 line ++ flagBytes flags ++ data ++ later) = line := join24 line
    have hflags : argFlags (be24 line ++ flagBytes flags ++ data ++ later) = flags := by
      rw [List.append_assoc]; exact argFlags_flagBytes line flags _
    have hdata : ((be24 line ++ flagBytes flags ++ data ++ later).drop 7).take Config.lineBytes = data :=
      (List.take_append_of_le_length (by simp [h, Config.lineBytes])).trans
        (List.take_of_length_le (by simp [h, Config.lineBytes]))
    show Instr.directWrite _ _ _ = _
    rw [hline, hflags, hdata]

/-- A well-formed command's frame is its code and the arguments that the code fixes. -/
theorem frameOf_encodeFrame {c : Instr} {bytes : List Byte} (hw : c.wellFormed = true) (he : encodeFrame c = some bytes) :
    ∃ code args, bytes = code :: args ∧ FrameOf c code args := by
  cases c with
  | status | result | readMarkerReport | readFault | readCounters | clearCounters | revertShadow | apply | flush | directId
  | directStatus | reprobe | setIrqMask | readActive | readShadow | retryHeld | releaseHeld =>
    obtain rfl := Option.some.inj he
    exact ⟨_, _, rfl, rfl, fun later => rfl⟩
  | writeShadow i it =>
    obtain rfl := Option.some.inj he
    exact ⟨_, _, rfl, rfl, fun later => congrArg (Instr.writeShadow i) (itemOfBytes_itemBytes it later)⟩
  | directRead line =>
    obtain rfl := Option.some.inj he
    exact ⟨_, _, rfl, rfl, fun later => congrArg Instr.directRead (join24 line)⟩
  | directWrite line flags data =>
    obtain rfl := Option.some.inj he
    exact ⟨_, _, rfl, .directWrite line flags (of_decide_eq_true hw)⟩
  | unknownCommand code =>
    obtain rfl := Option.some.inj he
    have hnone : argBytes code = none := Option.isNone_iff_eq_none.mp hw
    exact ⟨_, _, rfl, by rw [hnone]; rfl, fun later => decodeCommand_unknown hnone _⟩
  | hostAccessBegin | hostAccessEnd | withdrawal | stallTimerExpiry | windowTimerExpiry | takeRun | slotArbiterServe
  | portModeChange | heldBackFetchEntry | arbiterDecision | fetchCompletion | gapReadCompletion | writeEnableCompletion
  | pageWriteCompletion | pollIntervalExpiry | readStatusCompletion | verifyReadCompletion | throughWaiterOutcome
  | programTimerExpiry | settleLimitExpiry | pinWaitEnd | directWaitLimitExpiry | directIdCompletion
  | directStatusCompletion | directReadCompletion | probeReadIdCompletion | probeBusyTimerExpiry | markerReadCompletion
  | pfailnFall | pfailnRise | filteredAssertion | filteredRelease | rstnFall | rstnRise | frameCutShort | applyCompletion
  | flushCompletion | ssnRiseAfterReset => cases he

theorem cutBeforeCommand_cons (code : Byte) (args : List Byte) {bits : Nat} (h : bits < 8) :
    cutBeforeCommand (code :: args) bits = true ↔ args.length < (argBytes code).getD 0 := by
  rw [cutBeforeCommand, Bool.and_eq_true, decide_eq_true_iff, decide_eq_true_iff, frameEdges, takenAfterBits,
    List.length_cons]
  omega

/-- The whole frame, with any bytes and bits behind it. -/
theorem FrameOf.decodeFrame {c : Instr} {code : Byte} {args : List Byte} (h : FrameOf c code args) (later : List Byte)
    {bits : Nat} (hbits : bits < 8) : decodeFrame (code :: args ++ later) bits = some c := by
  have hcut : cutBeforeCommand (code :: (args ++ later)) bits = false := by
    rw [Bool.eq_false_iff, Ne, cutBeforeCommand_cons _ _ hbits, h.args_length, List.length_append]
    omega
  exact (if_neg (by simpa using hcut)).trans (congrArg some (h.decodes later))

/-- A frame that ends before its last bit. -/
theorem FrameOf.decodeFrame_cut {c : Instr} {code : Byte} {args : List Byte} (h : FrameOf c code args) {n bits : Nat}
    (hn : n < (code :: args).length) (hbits : bits < 8) (hedge : 0 < 8 * n + bits) :
    Sys2Proof.decodeFrame ((code :: args).take n) bits = some (.frameCutShort ((code :: args).take n) bits) := by
  refine if_pos ?_
  cases n with
  | zero => simp [cutBeforeCommand, hbits]; omega
  | succ n =>
    rw [List.take_succ_cons, cutBeforeCommand_cons _ _ hbits, h.args_length, List.length_take]
    rw [List.length_cons] at hn
    omega

end Sys2Proof.Machine

open Sys2Proof Sys2Proof.Machine

/-- Settles O55: a well-formed command's bytes are its code and the arguments that the code fixes (`frameOf_encodeFrame`). -/
theorem framesDecodeToTheirCommand : Obligations.FramesDecodeToTheirCommand := by
  unfold Obligations.FramesDecodeToTheirCommand
  refine ⟨rfl, fun x it line flags data => ⟨rfl, rfl, rfl, rfl, rfl, rfl, rfl, rfl, rfl⟩,
    fun bytes sdi bits hbits hlen h => ?_, fun bytes i j => ⟨by simp [sdiLevels], sdiLevels_getElem? bytes⟩,
    fun c bytes hw he => ?_⟩
  · rw [decodeLevels, wireBytes_eq hbits hlen h, show sdi.length % 8 = bits by omega]
  · obtain ⟨code, args, rfl, hframe⟩ := frameOf_encodeFrame hw he
    exact ⟨fun later bits => hframe.decodeFrame later, fun n bits => hframe.decodeFrame_cut⟩
end


section
/-! PROOF. The bytes of the serial memory and the PAGE-WRITEs on the link (05 R94 to R96, R100, R108; O59, O60).
`State.Leaves` says that neither is touched; the three commands that touch them are a status, which may show the end of a
program, and the completion of a WRITE-ENABLE, which the PAGE-WRITE follows. -/
namespace Sys2Proof.Machine

/-! ### What is on the wire or behind it -/

/-- This PAGE-WRITE is on the wire or behind what is on it. -/
def Link.CarriesWrite (l : Link) (addr : Nat) (data : List Byte) : Prop :=
  l.wire = some (.pageWrite addr data) ∨ l.queued = some (.pageWrite addr data)

theorem Link.Lawful.carriesWrite_iff {l : Link} (h : l.Lawful) {addr : Nat} {data : List Byte} :
    l.CarriesWrite addr data ↔ l.wire = some (.pageWrite addr data) :=
  or_iff_left (h.queuedKind addr data)

/-- Between the two states no byte of the memory changes and no PAGE-WRITE is put on the link. -/
structure State.Leaves (s t : State) : Prop where
  cells : t.memory.cells = s.memory.cells
  writes : ∀ addr data, t.link.CarriesWrite addr data → s.link.CarriesWrite addr data

namespace State.Leaves

section
variable {s t u : State}

/-- What touches neither the memory nor the link. -/
theorem of (hm : t.memory = s.memory) (hl : t.link = s.link) : s.Leaves t := ⟨by rw [hm], fun _ _ h => hl ▸ h⟩

theorem refl (s : State) : s.Leaves s := of rfl rfl

theorem trans (h : s.Leaves t) (k : t.Leaves u) : s.Leaves u :=
  ⟨k.cells.trans h.cells, fun addr data hw => h.writes addr data (k.writes addr data hw)⟩

/-- The operation that comes last is written first. -/
theorem after (k : t.Leaves u) (h : s.Leaves t) : s.Leaves u := h.trans k

theorem ite {c : Prop} [Decidable c] (ht : s.Leaves t) (hu : s.Leaves u) : s.Leaves (if c then t else u) := by
  split <;> assumption

end

section
variable (s : State)

theorem setLink {l : Link} (h : ∀ addr data, l.CarriesWrite addr data → s.link.CarriesWrite addr data) :
    s.Leaves (s.setLink l) := ⟨rfl, h⟩

theorem setLink_same {l : Link} (hw : l.wire = s.link.wire) (hq : l.queued = s.link.queued) : s.Leaves (s.setLink l) :=
  setLink s fun addr data h => by unfold Link.CarriesWrite at h ⊢; rwa [hw, hq] at h

/-- An operation that is no PAGE-WRITE is issued. -/
theorem issue {op : MemOp} (h : ∀ addr data, op ≠ .pageWrite addr data) : s.Leaves (s.issue op) := by
  unfold State.issue Link.issue
  split
  · exact setLink s fun addr data hc => .inr (hc.resolve_left fun hw => h addr data (Option.some.inj hw))
  · exact setLink s fun addr data hc => .inl (hc.resolve_right fun hq => h addr data (Option.some.inj hq))

theorem releaseLink : s.Leaves s.releaseLink := setLink_same s rfl rfl

theorem hold (op : LinkOp) : s.Leaves (s.hold op) := setLink_same s rfl rfl

/-- The link is granted, and what follows reaches neither it nor the memory. -/
theorem held {op : LinkOp} {t : State} (hm : t.memory = s.memory) (hl : t.link = (s.hold op).link) : s.Leaves t :=
  (hold s op).trans (of hm hl)

theorem wireDone : s.Leaves (s.setLink s.link.wireDone) := setLink s fun _ _ h => .inr (h.resolve_left nofun)

theorem abandon : s.Leaves (s.setLink s.link.abandon) := setLink s fun _ _ h => .inl (h.resolve_right nofun)

theorem timedOut : s.Leaves (s.setLink s.link.timedOut) := setLink s fun _ _ h => .inl (h.resolve_right nofun)

theorem afterStale : s.Leaves s.afterStale := setLink s fun _ _ h => .inr (h.resolve_right nofun)

theorem enableOrPin : s.Leaves s.enableOrPin := by
  unfold State.enableOrPin
  split
  · exact .refl s
  · exact ite (setLink_same s rfl rfl) (issue s nofun)

theorem beginAttempt : s.Leaves s.beginAttempt :=
  ite (enableOrPin s) (.trans (t := s.issue .readStatus) (issue s nofun) (setLink_same _ rfl rfl))

/-! ### What does not reach the link -/

theorem judgeApply : s.Leaves s.judgeApply := of (by simp) (by simp)

theorem abortApplyHeld : s.Leaves s.abortApplyHeld := of (by simp) (by simp)

theorem startupFailed (r : StartupReason) : s.Leaves (s.startupFailed r) :=
  of (by simp [State.startupFailed]) (by simp [State.startupFailed])

theorem completeLong (code : Completion) (data : List Byte) : s.Leaves (s.completeLong code data) := of rfl rfl

theorem setControl (c : Control) : s.Leaves (s.setControl c) := of rfl rfl

theorem addFault (r : FaultRecord) : s.Leaves (s.addFault r) := of rfl rfl

theorem startupNext (next : CtrlReq) : s.Leaves (s.startupNext next) := of (by simp) (by simp)

/-! ### The ends of attempts and of the direct operations -/

theorem startProgramAttempt (b : Buf) : s.Leaves (s.startProgramAttempt b) := by
  unfold State.startProgramAttempt
  exact after (beginAttempt _) (of (by simp) (by simp))

theorem startMarkerAttempt : s.Leaves s.startMarkerAttempt := by
  unfold State.startMarkerAttempt
  exact after (beginAttempt _) (of (by simp) (by simp))

theorem endProgram : s.Leaves s.endProgram := after (releaseLink _) (of rfl rfl)

theorem programSuccess (b : Buf) : s.Leaves (s.programSuccess b) := by
  unfold State.programSuccess
  exact after (judgeApply _) (after (endProgram _) (of (by simp) (by simp)))

theorem finalFailure (b : Buf) (r : FailReason) : s.Leaves (s.finalFailure b r) := by
  unfold State.finalFailure
  exact after (abortApplyHeld _) <| after (ite (addFault ..) (.refl _)) <| after (endProgram _) (of (by simp) (by simp))

theorem suspend (b : Buf) : s.Leaves (s.suspend b) := by
  unfold State.suspend
  exact after (endProgram _) (of (by simp) (by simp))

theorem attemptFailed (b : Buf) (r : FailReason) : s.Leaves (s.attemptFailed b r) := by
  unfold State.attemptFailed
  exact after (ite (finalFailure ..) (ite (suspend ..) (startProgramAttempt ..))) (of (by simp) (by simp))

theorem judgeProgram (b : Buf) (st : Byte) : s.Leaves (s.judgeProgram b st) :=
  ite (attemptFailed ..) (ite (after (issue _ nofun) (of (by simp) (by simp))) (programSuccess ..))

theorem markerSuccess : s.Leaves s.markerSuccess := by
  refine .trans (t := s.releaseLink) (releaseLink s) ?_
  unfold State.markerSuccess
  cases s.control.mode with
  | starting | pfDrain | resuming => exact of (by simp) (by simp)
  | running | applying | pfDone | failed => exact .refl _

theorem markerGivenUp (r : FailReason) : s.Leaves (s.markerGivenUp r) := by
  refine .trans (t := s.releaseLink) (releaseLink s) ?_
  unfold State.markerGivenUp
  cases s.control.mode with
  | starting | pfDrain | resuming => exact of (by simp) (by simp)
  | running | applying | pfDone | failed => exact .refl _

theorem markerAttemptFailed (r : FailReason) : s.Leaves (s.markerAttemptFailed r) := by
  unfold State.markerAttemptFailed
  exact after (ite (markerGivenUp ..) (startMarkerAttempt _)) (of rfl rfl)

theorem judgeMarker (st : Byte) : s.Leaves (s.judgeMarker st) :=
  ite (markerAttemptFailed ..) (ite (issue s nofun) (markerSuccess s))

theorem endDirect (code : Completion) (data : List Byte) : s.Leaves (s.endDirect code data) :=
  after (completeLong ..) (releaseLink s)

theorem judgeRun (st : Byte) : s.Leaves (s.judgeRun st) := by
  unfold State.judgeRun
  exact ite (endDirect ..) (after (ite (enableOrPin _) (endDirect ..)) (of rfl rfl))

/-! ### The judgement of a status, and the ends of SETTLE and PROBE -/

theorem pollAgain : s.Leaves s.pollAgain := setLink_same s rfl rfl

theorem pollEnds : s.Leaves s.pollEnds := setLink_same s rfl rfl

theorem settled : s.Leaves s.settled := by
  unfold State.settled
  exact after (enableOrPin _) (setLink_same s rfl rfl)

theorem settleDone (k : ReqKind) : s.Leaves (s.settleDone k) := by
  unfold State.settleDone
  exact after (ite (of (by simp) (by simp)) (.refl _)) (releaseLink s)

theorem probeQuiet : s.Leaves s.probeQuiet := by
  unfold State.probeQuiet
  exact after (startupNext ..) (after (setControl ..) (releaseLink s))

theorem probeSilent : s.Leaves s.probeSilent := by
  unfold State.probeSilent
  exact after (startupFailed ..) (after (setControl ..) (releaseLink s))

theorem judgeStatus (op : LinkOp) (st : Byte) : s.Leaves (s.judgeStatus op st) := by
  cases op with
  | program b => exact ite (pollAgain s) (ite (settled s) (after (judgeProgram ..) (pollEnds s)))
  | markerWrite => exact ite (pollAgain s) (ite (settled s) (after (judgeMarker ..) (pollEnds s)))
  | directWrite => exact ite (pollAgain s) (after (judgeRun ..) (pollEnds s))
  | probe => exact ite (pollAgain s) (probeQuiet s)
  | settle k => exact ite (pollAgain s) (settleDone s k)
  | fetch | markerRead | directId | directStatus | directRead => exact .refl s

/-! ### The arbiter and the end of an event -/

theorem grantFetch (p : Port) : s.Leaves (s.grantFetch p) := by
  unfold State.grantFetch
  split
  · exact .refl s
  · exact after (issue _ nofun) (held s (op := .fetch p) rfl rfl)

theorem grantProgram (b : Buf) : s.Leaves (s.grantProgram b) := by
  unfold State.grantProgram
  dsimp only
  split
  · exact after (startProgramAttempt ..) (held s (op := .program b) (by simp) (by simp))
  · exact after (issue _ nofun) (held s (op := .program b) (by simp) (by simp))

theorem grantMarkerWrite : s.Leaves s.grantMarkerWrite := by
  unfold State.grantMarkerWrite
  exact after (startMarkerAttempt _) (after (ite (of (by simp) (by simp)) (.refl _)) (of rfl rfl))

theorem takeDirect (op : LinkOp) : s.Leaves (s.takeDirect op) := held s (op := op) rfl rfl

theorem grantDirectWrite : s.Leaves s.grantDirectWrite := by
  unfold State.grantDirectWrite
  exact after (ite (endDirect ..) (enableOrPin _)) (takeDirect s _)

theorem grant (op : LinkOp) : s.Leaves (s.grant op) := by
  cases op with
  | fetch p => exact grantFetch ..
  | program b => exact grantProgram ..
  | probe => exact after (issue _ nofun) (held s (op := .probe) rfl rfl)
  | markerRead => exact after (issue _ nofun) (held s (op := .markerRead) rfl rfl)
  | markerWrite => exact after (grantMarkerWrite _) (held s (op := .markerWrite) rfl rfl)
  | directId | directStatus | directRead => exact after (issue _ nofun) (takeDirect s _)
  | directWrite => exact grantDirectWrite s
  | settle k => exact .refl s

theorem decideOnce : s.Leaves s.decideOnce := by
  unfold State.decideOnce
  refine ite (.refl s) ?_
  split
  · exact .refl s
  · exact ite (after (issue _ nofun) (after (setLink_same _ rfl rfl) (hold s _))) (grant ..)

theorem decide : s.Leaves s.decide := (decideOnce s).trans (decideOnce _)

theorem endPinWait : s.Leaves s.endPinWait := by
  unfold State.endPinWait
  split
  · exact .refl s
  · exact ite (after (issue _ nofun) (setLink_same s rfl rfl)) (.refl s)

theorem endEvent : s.Leaves s.endEvent := by
  unfold State.endEvent
  have hwaits : s.Leaves s.enterHeldBack.endPinWait := after (endPinWait _) (of (by simp) (by simp))
  have hrequested : s.Leaves s.enterHeldBack.endPinWait.judgeFlush.requestMarker := hwaits.trans (of (by simp) (by simp))
  exact (hrequested.trans (decide _)).trans (of rfl rfl)

end

/-- An event that leaves the memory and the link ends with what the end of every event does. -/
theorem event {s t : State} (hm : t.memory = s.memory) (hl : t.link = s.link) : s.Leaves t.endEvent :=
  after (endEvent t) (of hm hl)

end State.Leaves

/-! ### The commands -/

section
variable {s : State}

open State.Leaves

/-- The commands that come in a frame. -/
theorem exec_leaves_frame {c : Instr} {bs : List Byte} (hc : encodeFrame c = some bs) :
    ∃ t, exec c s = .next t ∧ s.Leaves t := by
  cases c with
  | unknownCommand | status | readMarkerReport | readCounters | clearCounters | setIrqMask =>
    exact ⟨_, rfl, ite (of rfl rfl) (.refl s)⟩
  | readActive | readShadow | revertShadow => exact ⟨_, rfl, ite (ite (of rfl rfl) (of rfl rfl)) (.refl s)⟩
  | reprobe => exact ⟨_, rfl, ite (ite (event (by simp) (by simp)) (of rfl rfl)) (.refl s)⟩
  | writeShadow => exact ⟨_, rfl, ite (ite (of rfl rfl) (ite (of rfl rfl) (of rfl rfl))) (.refl s)⟩
  | result | readFault =>
    refine ⟨_, rfl, ite ?_ (.refl s)⟩
    split
    · exact of rfl rfl
    · exact of rfl rfl
  | directId | directStatus | directRead | directWrite =>
    refine ⟨_, rfl, ite ?_ (.refl s)⟩
    split
    · exact of rfl rfl
    · exact event rfl rfl
  | retryHeld | releaseHeld =>
    refine ⟨_, rfl, ite ?_ (.refl s)⟩
    split
    · exact of rfl rfl
    · exact ite (event (by simp) (by simp)) (of rfl rfl)
  | flush =>
    refine ⟨_, rfl, ite ?_ (.refl s)⟩
    split
    · exact of rfl rfl
    · exact ite (of rfl rfl) (event rfl rfl)
  | apply =>
    refine ⟨_, rfl, ite ?_ (.refl s)⟩
    split
    · exact of rfl rfl
    · refine ite (of rfl rfl) (ite (of rfl rfl) ?_)
      split
      · exact of rfl rfl
      · exact event (by simp) (by simp)
  | hostAccessBegin | hostAccessEnd | withdrawal | stallTimerExpiry | windowTimerExpiry | takeRun | slotArbiterServe
  | portModeChange | heldBackFetchEntry | arbiterDecision | fetchCompletion | gapReadCompletion | writeEnableCompletion
  | pageWriteCompletion | pollIntervalExpiry | readStatusCompletion | verifyReadCompletion | throughWaiterOutcome
  | programTimerExpiry | settleLimitExpiry | pinWaitEnd | directWaitLimitExpiry | directIdCompletion
  | directStatusCompletion | directReadCompletion | probeReadIdCompletion | probeBusyTimerExpiry | markerReadCompletion
  | pfailnFall | pfailnRise | filteredAssertion | filteredRelease | rstnFall | rstnRise | frameCutShort | applyCompletion
  | flushCompletion | ssnRiseAfterReset => cases hc

/-- A completion on the link ends with the judgement of what came back and the end of the event. -/
theorem State.Leaves.completed {t : State} (h : (s.setLink s.link.wireDone).Leaves t) : s.Leaves t.endEvent :=
  after (endEvent t) (after h (wireDone s))

theorem exec_readStatus_leaves (st : Byte) :
    ∃ t, exec (.readStatusCompletion st) s = .next t ∧ (s.Leaves t ∨ (s.sawStatus st).Leaves t) := by
  refine ⟨_, rfl, ?_⟩
  split
  · split
    · exact .inr (after (endEvent _) (afterStale _))
    · split
      · split
        · exact .inr (after (endEvent _) (judgeStatus ..))
        · exact .inl (.refl s)
      · exact .inl (.refl s)
  · exact .inl (.refl s)

theorem exec_directStatus_leaves (st : Byte) :
    ∃ t, exec (.directStatusCompletion st) s = .next t ∧ (s.Leaves t ∨ (s.sawStatus st).Leaves t) := by
  refine ⟨_, rfl, ?_⟩
  split
  · exact .inr (after (endEvent _) (endDirect ..))
  · exact .inl (.refl s)

/-- The state in which the completion of a WRITE-ENABLE issues the page write. -/
def State.enabled (s : State) : State := (s.setLink s.link.wireDone).setMemory s.memory.writeEnable

theorem exec_writeEnable_leaves : ∃ t, exec .writeEnableCompletion s = .next t
    ∧ (s.Leaves t ∨ s.link.wire = some .writeEnable ∧ s.enabled.issuePageWrite.Leaves t) := by
  refine ⟨_, rfl, ?_⟩
  split
  · rename_i h
    exact .inr ⟨beq_iff_eq.mp (Bool.and_eq_true_iff.mp h).2, endEvent _⟩
  · exact .inl (.refl s)

/-- The events that come in no frame, but for the statuses and the completion of a WRITE-ENABLE. -/
theorem exec_leaves_event {c : Instr} (hc : encodeFrame c = none) (hread : ∀ st, c ≠ .readStatusCompletion st)
    (hdirect : ∀ st, c ≠ .directStatusCompletion st) (henable : c ≠ .writeEnableCompletion) :
    ∃ t, exec c s = .next t ∧ s.Leaves t := by
  cases c with
  | readStatusCompletion st => exact absurd rfl (hread st)
  | directStatusCompletion st => exact absurd rfl (hdirect st)
  | writeEnableCompletion => exact absurd rfl henable
  | rstnFall => exact ⟨_, rfl, ite ⟨SerialMemory.cut_cells .., fun _ _ h => h.elim nofun nofun⟩ (.refl s)⟩
  | rstnRise => exact ⟨_, rfl, ite (.refl s) (after (endEvent _) ⟨rfl, fun _ _ h => h.elim nofun nofun⟩)⟩
  | hostAccessBegin => exact ⟨_, rfl, ite (.refl s) (ite (of rfl rfl) (event (by simp) (by simp)))⟩
  | hostAccessEnd | windowTimerExpiry | throughWaiterOutcome | flushCompletion | frameCutShort | ssnRiseAfterReset
  | pfailnRise => exact ⟨_, rfl, ite (of (by simp) (by simp)) (.refl s)⟩
  | pfailnFall => exact ⟨_, rfl, ite (.refl s) (of rfl rfl)⟩
  | withdrawal | stallTimerExpiry | takeRun | slotArbiterServe | portModeChange | heldBackFetchEntry
  | directWaitLimitExpiry | filteredAssertion | filteredRelease | applyCompletion =>
    exact ⟨_, rfl, ite (event (by simp) (by simp)) (.refl s)⟩
  | arbiterDecision => exact ⟨_, rfl, ite ((State.Leaves.decide s).trans (of rfl rfl)) (.refl s)⟩
  | pinWaitEnd => exact ⟨_, rfl, ite (endPinWait s) (.refl s)⟩
  | fetchCompletion =>
    refine ⟨_, rfl, ?_⟩
    split
    · exact .completed (after (of (by simp) (by simp)) (releaseLink _))
    · exact .refl s
  | gapReadCompletion =>
    refine ⟨_, rfl, ?_⟩
    split
    · exact ite (.completed (after (startProgramAttempt ..) (of (by simp) (by simp)))) (.refl s)
    · exact .refl s
  | pageWriteCompletion =>
    refine ⟨_, rfl, ?_⟩
    split
    · exact ⟨SerialMemory.pageWrite_cells .., fun _ _ h => .inr (h.resolve_left nofun)⟩
    · exact .refl s
  | pollIntervalExpiry => exact ⟨_, rfl, ite (after (issue _ nofun) (setLink_same s rfl rfl)) (.refl s)⟩
  | verifyReadCompletion =>
    refine ⟨_, rfl, ?_⟩
    split
    · exact ite (.completed (ite (programSuccess ..) (attemptFailed ..))) (.refl s)
    · exact ite (.completed (ite (markerSuccess _) (markerAttemptFailed ..))) (.refl s)
    · exact .refl s
  | programTimerExpiry =>
    refine ⟨_, rfl, ite ?_ (.refl s)⟩
    split
    · exact after (endEvent _) (after (attemptFailed ..) (timedOut s))
    · exact after (endEvent _) (after (markerAttemptFailed ..) (timedOut s))
    · exact after (endEvent _) (after (endDirect ..) (timedOut s))
    · exact .refl s
  | settleLimitExpiry =>
    refine ⟨_, rfl, ?_⟩
    split
    · exact after (endEvent _) (after (settleDone ..) (abandon s))
    · exact .refl s
  | directIdCompletion => exact ⟨_, rfl, ite (.completed (endDirect ..)) (.refl s)⟩
  | directReadCompletion =>
    refine ⟨_, rfl, ?_⟩
    split
    · exact ite (.completed (endDirect ..)) (.refl s)
    · exact .refl s
  | probeReadIdCompletion =>
    exact ⟨_, rfl, ite (ite (.completed (afterStale _)) (ite (.completed (ite (probeSilent _) (issue _ nofun))) (.refl s)))
      (.refl s)⟩
  | probeBusyTimerExpiry =>
    exact ⟨_, rfl, ite (after (endEvent _) (after (startupFailed ..) (after (setControl ..) (after (releaseLink _)
      (abandon s))))) (.refl s)⟩
  | markerReadCompletion =>
    refine ⟨_, rfl, ?_⟩
    split
    · exact ite (.completed (after (of (by simp) (by simp)) (releaseLink _))) (.refl s)
    · exact .refl s
  | unknownCommand | status | result | readMarkerReport | readFault | readCounters | clearCounters | setIrqMask | readActive
  | readShadow | writeShadow | revertShadow | apply | flush | directId | directStatus | directRead | directWrite | retryHeld
  | releaseHeld | reprobe => cases hc

/-- Every command leaves the memory and the PAGE-WRITEs alone, or is a status, or the completion of a WRITE-ENABLE. -/
theorem exec_touches {c : Instr} {t : State} (he : exec c s = .next t) :
    s.Leaves t
      ∨ (∃ st, (c = .readStatusCompletion st ∨ c = .directStatusCompletion st) ∧ (s.sawStatus st).Leaves t)
      ∨ s.link.wire = some .writeEnable ∧ s.enabled.issuePageWrite.Leaves t := by
  have only {t' : State} (he' : exec c s = .next t') : t' = t := Host.Outcome.next.inj (he'.symm.trans he)
  by_cases hread : ∃ st, c = .readStatusCompletion st
  · obtain ⟨st, rfl⟩ := hread
    obtain ⟨t', he', h⟩ := exec_readStatus_leaves (s := s) st
    exact only he' ▸ h.imp id fun h => .inl ⟨st, .inl rfl, h⟩
  by_cases hdirect : ∃ st, c = .directStatusCompletion st
  · obtain ⟨st, rfl⟩ := hdirect
    obtain ⟨t', he', h⟩ := exec_directStatus_leaves (s := s) st
    exact only he' ▸ h.imp id fun h => .inl ⟨st, .inr rfl, h⟩
  by_cases henable : c = .writeEnableCompletion
  · subst henable
    obtain ⟨t', he', h⟩ := exec_writeEnable_leaves (s := s)
    exact only he' ▸ h.imp id .inr
  cases hc : encodeFrame c with
  | some bs =>
    obtain ⟨t', he', h⟩ := exec_leaves_frame (s := s) hc
    exact .inl (only he' ▸ h)
  | none =>
    obtain ⟨t', he', h⟩ := exec_leaves_event (s := s) hc (not_exists.mp hread) (not_exists.mp hdirect) henable
    exact .inl (only he' ▸ h)

/-! ### A status and the end of a program (05 R95, R96) -/

/-- The bytes that a status changes: those of the program whose end it shows. -/
theorem SerialMemory.memRead_sawStatus (m : SerialMemory) (st : Byte) (now a : Nat) :
    memRead (m.sawStatus st now).cells a = memRead m.cells a
      ∨ ∃ addr data, statusBusy st = false ∧ m.busy = true ∧ m.program = some (addr, data) ∧ addr ≤ a
        ∧ a < addr + data.length
        ∧ (statusWriteFail st = false → memRead (m.sawStatus st now).cells a = data.getD (a - addr) 0) := by
  by_cases hsame : m.busy = false ∨ statusBusy st = true
  · exact .inl (by rw [SerialMemory.sawStatus_same hsame])
  obtain ⟨hb, hs⟩ : m.busy = true ∧ statusBusy st = false := by simpa using hsame
  rw [SerialMemory.sawStatus_ends hb hs]
  cases hprogram : m.program with
  | none => exact .inl (by simp [SerialMemory.endProgram, hprogram])
  | some program =>
    obtain ⟨addr, data⟩ := program
    by_cases hin : addr ≤ a ∧ a < addr + data.length
    · refine .inr ⟨addr, data, hs, hb, rfl, hin.1, hin.2, fun hfail => ?_⟩
      simp [SerialMemory.endProgram, hprogram, hfail, memRead_memWriteAll, hin]
    · refine .inl ?_
      cases hfail : statusWriteFail st with
      | false => simp [SerialMemory.endProgram, hprogram, memRead_memWriteAll, hin]
      | true => simp [SerialMemory.endProgram, hprogram, memRead_memWriteAll, hin]

/-! ### The page write that follows a WRITE-ENABLE (05 R94, R100, R108) -/

/-- What the holder writes next lies in the page whose pins are checked. -/
theorem State.holderWrite_page {page addr : Nat} {data : List Byte} (hb : s.BytesLawful)
    (hw : s.holderWrite = some (addr, data)) (hp : s.holderPage = some page) : pageOf addr = page := by
  rcases State.holderPage_iff.mp hp with ⟨b, hold, rfl⟩ | ⟨hold, rfl⟩ | ⟨hold, rfl⟩
  · rw [State.holderWrite_program hold] at hw
    obtain ⟨rfl, -⟩ := Prod.mk.inj (Option.some.inj hw)
    have hlt : (s.buf b).spanFirst < 256 := PageBuffer.spanFirst_lt (State.KeepsLaws.bufBelow hb b)
    show ((s.buf b).page * 256 + (s.buf b).spanFirst) / 256 = (s.buf b).page
    omega
  · rw [State.holderWrite_markerWrite hold] at hw
    obtain ⟨haddr, -⟩ := Prod.mk.inj (Option.some.inj hw)
    rw [← haddr, State.markerPage]
  · unfold State.holderWrite at hw
    rw [hold] at hw
    obtain ⟨r, hr, hrun⟩ := Option.map_eq_some_iff.mp hw
    obtain ⟨rfl, -⟩ := Prod.mk.inj hrun
    have hmem := (mem_directRuns _ r).mp (List.mem_of_getElem? hr)
    have hhigh := hmem.high
    have hpos := hmem.nonempty
    show (s.maint.direct.line.toNat * 32 + r.1) / 256 = s.maint.direct.line.toNat / 8
    omega

/-- A page write comes on the link of a page that no fetch pins, and lies in it. -/
theorem State.issuePageWrite_carries {addr : Nat} {data : List Byte} (hb : s.BytesLawful)
    (hno : ¬ s.link.CarriesWrite addr data) (h : s.issuePageWrite.link.CarriesWrite addr data) :
    s.pinned (pageOf addr) = false ∧ addr % 256 + data.length ≤ 256 := by
  unfold State.issuePageWrite at h
  split at h
  · rename_i addr' data' page hw hp
    split at h
    · exact absurd h hno
    · rename_i hpin
      simp only [State.countRunIssued_frame, State.chargePageWrite_frame] at h
      obtain ⟨rfl, rfl⟩ : addr' = addr ∧ data' = data := by
        unfold State.issue Link.issue at h
        split at h
        · have hwire := h.resolve_right fun hq => hno (.inr hq)
          injection Option.some.inj hwire with haddr hdata
          exact ⟨haddr, hdata⟩
        · have hqueued := h.resolve_left fun hq => hno (.inl hq)
          injection Option.some.inj hqueued with haddr hdata
          exact ⟨haddr, hdata⟩
      rw [State.holderWrite_page hb hw hp]
      exact ⟨by simpa using hpin, State.KeepsLaws.holderWrite_withinPage s hw hb⟩
  · exact absurd h hno

end
end Sys2Proof.Machine

open Sys2Proof Sys2Proof.Machine

/-- Settles O59: only a status touches the bytes (`exec_touches`), by the end of the program that it shows. -/
theorem memoryChangesOnlyAtProgramEnd : Obligations.MemoryChangesOnlyAtProgramEnd := by
  unfold Obligations.MemoryChangesOnlyAtProgramEnd
  intro c s t a he
  rcases exec_touches he with h | ⟨st, hc, h⟩ | ⟨-, h⟩
  · exact .inl (by rw [h.cells])
  · rw [h.cells]
    rcases s.memory.memRead_sawStatus st s.now a with hsame | ⟨addr, data, hs, hb, hprogram, hlo, hhi, hwritten⟩
    · exact .inl hsame
    · exact .inr ⟨st, addr, data, hc, hs, hb, hprogram, hlo, hhi, hwritten⟩
  · have henabled : s.enabled.issuePageWrite.memory = s.memory.writeEnable := by simp [State.enabled]
    exact .inl (by rw [h.cells, henabled, SerialMemory.writeEnable_cells])

/-- Settles O60: a PAGE-WRITE comes on the link only behind a WRITE-ENABLE (`exec_touches`), whose memory is QUIET, and the
pins of its page are checked as it is issued. -/
theorem pageWriteNeverOnPinnedPage : Obligations.PageWriteNeverOnPinnedPage := by
  unfold Obligations.PageWriteNeverOnPinnedPage
  intro c s t addr data hl hb he hw hnew
  have hcarried : t.link.CarriesWrite addr data := .inl hw
  have hno : ¬ s.link.CarriesWrite addr data := fun h => hnew ((hl.carriesWrite_iff.mp h).trans hw.symm)
  rcases exec_touches he with h | ⟨st, -, h⟩ | ⟨henable, h⟩
  · exact absurd (h.writes addr data hcarried) hno
  · exact absurd ((h.writes addr data hcarried).elim nofun .inr) hno
  · have hidle : ¬ s.enabled.link.CarriesWrite addr data := fun hc => hno (.inr (hc.resolve_left nofun))
    obtain ⟨hpin, hpage⟩ := State.issuePageWrite_carries (s := s.enabled)
      ⟨hb.entries, hb.pb0, hb.pb1, nofun, hb.queued⟩ hidle (h.writes addr data hcarried)
    exact ⟨hpin, hl.wireQuiet _ henable rfl, hpage⟩
end


section
/-! PROOF. The configuration at cold reset, and the bytes of the records that the supervisor reads (07 R129; 09 R173 to
R182; 10 R193 to R205; O50, O51, O52). -/
namespace Sys2Proof.Machine

/-! ### The fields of an item from its bytes (10 R202) -/

theorem itemByte_itemOfBytes (bs : List Byte) {k : Nat} (hk : k < 10) : itemByte (itemOfBytes bs) k = bs.getD k 0 := by
  refine BitVec.eq_of_getLsbD_eq fun j hj => ?_
  rw [itemByte_getLsbD _ hj, show itemOfBytes bs = joinedBytes bs 10 from rfl, joinedBytes_getLsbD _ _ (by omega) (by omega),
    show 10 - 1 - (72 - 8 * k + j) / 8 = k by omega, show (72 - 8 * k + j) % 8 = j by omega]

section
variable (enable : Bool) (base k cls ports : Nat)

theorem itemEnable_windowItem : itemEnable (windowItem enable base k cls ports) = enable := by
  rw [itemEnable, windowItem, itemByte_itemOfBytes _ (by decide), List.getD_cons_zero]
  cases enable <;> rfl

theorem itemBase_windowItem (h : base = 0) : itemBase (windowItem enable base k cls ports) = 0 := by
  rw [itemBase, windowItem, itemByte_itemOfBytes _ (by decide), itemByte_itemOfBytes _ (by decide), h]
  simp

theorem itemExponent_windowItem (h : k < 256) : itemExponent (windowItem enable base k cls ports) = k := by
  rw [itemExponent, windowItem, itemByte_itemOfBytes _ (by decide)]
  exact Nat.mod_eq_of_lt h

theorem itemClassCode_windowItem (h : cls < 256) : itemClassCode (windowItem enable base k cls ports) = cls := by
  rw [itemClassCode, windowItem, itemByte_itemOfBytes _ (by decide)]
  exact Nat.mod_eq_of_lt h

theorem windowPermits_windowItem (p : Port) : windowPermits (windowItem enable base k cls 3) p = true := by
  have hcode : itemPortCode (windowItem enable base k cls 3) = 3 := by
    rw [itemPortCode, windowItem, itemByte_itemOfBytes _ (by decide)]
    rfl
  cases p with
  | A => exact (windowPermits_A_iff _).mpr (.inr hcode)
  | B => exact (windowPermits_B_iff _).mpr (.inr hcode)

end

theorem itemByte_globalsColdReset {k : Nat} (hk : k < 10) :
    itemByte globalsColdReset k = ([0, 16, 16, 3, 10, 3, 1, 8, 0xFF, 0xFF] : List Byte).getD k 0 :=
  itemByte_itemOfBytes _ hk

/-- The globals of 07 R129. -/
theorem globalsColdReset_fields : globalsWindow globalsColdReset = 16 ∧ globalsHwm globalsColdReset = 16
    ∧ stallLimitMicros (globalsStallCode globalsColdReset) = 1000 ∧ globalsTimeout globalsColdReset = 10
    ∧ globalsRetryLimit globalsColdReset = 3 ∧ globalsVerifyCode globalsColdReset = 1
    ∧ globalsBudget globalsColdReset = 8 ∧ globalsFillUpper globalsColdReset = 0xFF
    ∧ globalsFillLower globalsColdReset = 0xFF := by
  simp [globalsWindow, globalsHwm, globalsStallCode, globalsTimeout, globalsRetryLimit, globalsVerifyCode, globalsBudget,
    globalsFillUpper, globalsFillLower, itemByte_globalsColdReset, stallLimitMicros]

theorem strapExponent_lt (size1 size0 : Bool) : strapExponent size1 size0 < 256 := by
  cases size1 <;> cases size0 <;> decide

/-- The windows 1 to 7 after cold reset. -/
theorem ConfigSet.coldReset_item (st : Straps) {i : Nat} (h1 : 1 ≤ i) (h8 : i < 8) :
    (ConfigSet.coldReset st).item i = windowItem false 0 0 0 3 := by
  obtain rfl | rfl | rfl | rfl | rfl | rfl | rfl : i = 1 ∨ i = 2 ∨ i = 3 ∨ i = 4 ∨ i = 5 ∨ i = 6 ∨ i = 7 := by omega
  all_goals rfl

theorem windowClass_posted {it : Item} (h : itemClassCode it = 0) : windowClass it = .posted := by
  simp [windowClass, h]

theorem windowClass_through {it : Item} (h : itemClassCode it = 2) : windowClass it = .through := by
  simp [windowClass, h]

theorem windowClass_defaultWindow (size1 size0 dclass : Bool) :
    windowClass (defaultWindow size1 size0 dclass) = if dclass then .through else .posted := by
  cases dclass with
  | false => exact windowClass_posted (itemClassCode_windowItem _ _ _ _ _ (by decide))
  | true => exact windowClass_through (itemClassCode_windowItem _ _ _ _ _ (by decide))

/-! ### The size of the memory (00 FIXED QUANTITIES) -/

theorem Straps.le_memoryBytes (st : Straps) : 256 ≤ st.memoryBytes := by
  have hpos : 1 ≤ 2 ^ strapExponent st.size1 st.size0 := Nat.one_le_two_pow
  show 256 ≤ 4096 * 2 ^ strapExponent st.size1 st.size0
  omega

theorem sub_pageBytes (n : Nat) : n - Config.pageBytes = n - 256 := rfl

theorem State.markerAddr_eq (s : State) : s.markerAddr = s.memoryBytes - 256 := sub_pageBytes s.memoryBytes

/-- Where the last page ends. -/
theorem last_page_end {size addr page : Nat} (hsize : 256 ≤ size) (haddr : addr = size - 256) (hpage : page * 256 = addr) :
    (page + 1) * 256 = size := by
  rw [Nat.succ_mul, hpage, haddr, Nat.sub_add_cancel hsize]

theorem pageOf_mul {a : Nat} (h : a % Config.pageBytes = 0) : pageOf a * 256 = a :=
  Nat.div_mul_cancel (Nat.dvd_of_mod_eq_zero h)

theorem State.markerPage_mul (s : State) : s.markerPage * 256 = s.markerAddr := pageOf_mul s.markerAddr_mod

theorem State.markerPage_succ_mul (s : State) : (s.markerPage + 1) * 256 = s.memoryBytes :=
  last_page_end s.straps.le_memoryBytes s.markerAddr_eq s.markerPage_mul

/-! ### Numbers and flags in the records (10 R197, R201, R203) -/

theorem extractLsb'_ofNat16 (a i : Nat) (h : i + 8 ≤ 16) :
    (BitVec.ofNat 16 a).extractLsb' i 8 = BitVec.ofNat 8 (a / 2 ^ i) := by
  ext j hj
  rw [BitVec.getElem_extractLsb', ← BitVec.getLsbD_eq_getElem, BitVec.getLsbD_ofNat, BitVec.getLsbD_ofNat,
    Nat.testBit_div_two_pow, decide_eq_true (by omega : i + j < 16), decide_eq_true hj, Nat.add_comm]

theorem be16_ofNat (a : Nat) : be16 (BitVec.ofNat 16 a) = [BitVec.ofNat 8 (a / 256), BitVec.ofNat 8 a] := by
  rw [be16, extractLsb'_ofNat16 _ _ (by decide), extractLsb'_ofNat16 _ _ (by decide)]
  simp

theorem FaultSource.presence_toNat (src : FaultSource) (a b c d : Bool) :
    (src.code ||| flag a 4 ||| flag b 5 ||| flag c 6 ||| flag d 7).toNat
      = src.code.toNat + 16 * bit a + 32 * bit b + 64 * bit c + 128 * bit d := by
  revert a b c d
  cases src <;> decide

theorem statusFlags_toNat (a b c d e : Bool) : (flag a 0 ||| flag b 1 ||| flag c 2 ||| flag d 3 ||| flag e 4).toNat
    = bit a + 2 * bit b + 4 * bit c + 8 * bit d + 16 * bit e := by
  revert a b c d e
  decide

theorem BufState.codes_toNat (a b : BufState) : (a.code ||| (b.code <<< 4)).toNat = a.code.toNat + 16 * b.code.toNat := by
  cases a <;> cases b <;> rfl

theorem LongKind.fetches_toNat (k : LongKind) {n : Nat} (h : n ≤ 2) :
    (BitVec.ofNat 8 n ||| (k.code <<< 4)).toNat = n + 16 * k.code.toNat := by
  obtain rfl | rfl | rfl : n = 0 ∨ n = 1 ∨ n = 2 := by omega
  all_goals cases k <;> rfl

theorem FaultRecord.retained_flag (r : FaultRecord) :
    flag (r.retained.getD false) 0 = if r.retained = some true then 1 else 0 := by
  cases r.retained with
  | none => rfl
  | some x => cases x <;> rfl

theorem FaultRecord.encode_eq (r : FaultRecord) : r.encode = [r.kind.code,
    r.source.code ||| flag r.address.isSome 4 ||| flag r.seq.isSome 5 ||| flag r.page.isSome 6 ||| flag r.retained.isSome 7,
    if r.retained = some true then 1 else 0, r.epoch,
    (r.address.getD 0).extractLsb' 16 8, (r.address.getD 0).extractLsb' 8 8, (r.address.getD 0).extractLsb' 0 8,
    (r.seq.getD 0).extractLsb' 16 8, (r.seq.getD 0).extractLsb' 8 8, (r.seq.getD 0).extractLsb' 0 8,
    BitVec.ofNat 8 (r.page.getD 0 / 256), BitVec.ofNat 8 (r.page.getD 0), r.detail] := by
  rw [FaultRecord.encode, be16_ofNat, r.retained_flag]
  rfl

theorem ResultRecord.encode_eq (r : ResultRecord) (h : r.data.length ≤ 32) :
    r.encode = r.kind.code :: r.code.code :: (r.data ++ List.replicate (32 - r.data.length) 0) := by
  rw [ResultRecord.encode, List.take_append, List.take_of_length_le h, List.take_replicate,
    Nat.min_eq_left (Nat.sub_le ..)]
  rfl

theorem State.statusRecord_eq (s : State) : s.statusRecord = [s.control.mode.code,
    flag s.halted 0 ||| flag s.maint.ready 1 ||| flag s.control.filtered 2 ||| flag (s.waitLow .A) 3
      ||| flag (s.waitLow .B) 4,
    BitVec.ofNat 8 s.queue.entries.length, BitVec.ofNat 8 (s.queue.entries.countP fun e => e.isOpen),
    (s.buf .pb0).state.code ||| ((s.buf .pb1).state.code <<< 4),
    BitVec.ofNat 8 ((s.buf .pb0).page / 256), BitVec.ofNat 8 (s.buf .pb0).page,
    BitVec.ofNat 8 ((s.buf .pb1).page / 256), BitVec.ofNat 8 (s.buf .pb1).page,
    BitVec.ofNat 8 s.reads.fetches.length ||| (s.maint.slot.code <<< 4),
    BitVec.ofNat 8 s.faults.list.length, s.faults.overflow, s.control.epoch, s.maint.frameErrors,
    BitVec.ofNat 8 s.control.budget] := by
  rw [State.statusRecord, be16_ofNat, be16_ofNat, List.countP_eq_length_filter]
  rfl

/-! ### The fault list and the commands that read (07 R133; 09 R173, R177, R180; 10 R193, R195, R196) -/

section
variable {s : State}

theorem FaultUnit.append_room {u : FaultUnit} (r : FaultRecord) (h : u.list.length < 8) :
    u.append r = { u with list := u.list ++ [r] } := if_pos h

theorem FaultUnit.append_full {u : FaultUnit} (r : FaultRecord) (h : 8 ≤ u.list.length) :
    u.append r = { u with overflow := if u.overflow = 255 then 255 else u.overflow + 1 } := by
  refine (if_neg (Nat.not_lt.mpr h)).trans ?_
  by_cases hfull : u.overflow = 255
  · rw [if_pos hfull, if_pos hfull, ← hfull]
  · rw [if_neg hfull, if_neg hfull]

theorem exec_readFault_cons (ht : s.takesFrames = true) {r : FaultRecord} {rest : List FaultRecord}
    (hl : s.faults.list = r :: rest) : exec .readFault s = .next ((s.setFaults { s.faults with
        list := rest, overflow := if rest = [] then 0 else s.faults.overflow }).respond 0x00
      (r.encode ++ [s.faults.overflow, BitVec.ofNat 8 rest.length])) := by
  show execReadFault s = _
  simp only [execReadFault, ht, hl, if_true, List.isEmpty_iff, respOk]

theorem exec_readFault_nil (ht : s.takesFrames = true) (hl : s.faults.list = []) :
    exec .readFault s = .next (s.respond 0x09 []) := by
  show execReadFault s = _
  simp only [execReadFault, ht, hl, if_true, respNonePending]

theorem FaultUnit.Lawful.overflow_nil {u : FaultUnit} (h : u.Lawful) (hl : u.list = []) : u.overflow = 0 :=
  Classical.byContradiction fun ho => h.beside ho hl

theorem exec_readsOnly {c : Instr} {response : List Byte} (ht : s.takesFrames = true) (h : s.ReadsOnly c response) :
    exec c s = .next (s.setMaint { s.maint with response := response }) := by
  cases h with
  | status | report | counters => exact congrArg Host.Outcome.next (if_pos ht)
  | active i hi | shadow i hi => exact congrArg Host.Outcome.next ((if_pos ht).trans (if_pos hi))
  | noActive i hi | noShadow i hi => exact congrArg Host.Outcome.next ((if_pos ht).trans (if_neg (Nat.not_lt.mpr hi)))

theorem exec_result_ready (ht : s.takesFrames = true) {r : ResultRecord} (hready : s.maint.ready = true)
    (hr : s.maint.result = some r) :
    exec .result s = .next (s.setMaint { s.maint with ready := false, response := 0x00 :: r.encode }) := by
  refine congrArg Host.Outcome.next ((if_pos ht).trans ?_)
  split
  · rename_i r' _ hr'
    obtain rfl := Option.some.inj (hr.symm.trans hr')
    rfl
  · rename_i hnone
    exact absurd hr (hnone r hready)

theorem exec_result_none (ht : s.takesFrames = true) (hready : s.maint.ready = false) :
    exec .result s = .next (s.respond 0x09 []) := by
  show execResult s = _
  simp only [execResult, ht, hready, if_true, respNonePending]

end
end Sys2Proof.Machine

open Sys2Proof Sys2Proof.Machine

/-- Settles O50: each field is a byte of its item, and the item's bytes are those it was made of (`itemByte_itemOfBytes`). -/
theorem coldResetConfiguration : Obligations.ColdResetConfiguration := by
  unfold Obligations.ColdResetConfiguration
  refine ⟨?_, fun s => ⟨rfl, s.markerAddr_eq, s.markerPage_mul, s.markerPage_succ_mul⟩,
    fun it => ⟨_, _, _, _, _, _, _, _, _, _, rfl, rfl, rfl, rfl, rfl, rfl, rfl, rfl, rfl, rfl⟩, by decide, ?_,
    fun st => ?_⟩
  · rintro ⟨_ | _, _ | _, _⟩
    · exact (by decide : 4096 * 2 ^ 9 = 2 * 1048576)
    · exact (by decide : 4096 * 2 ^ 10 = 4 * 1048576)
    · exact (by decide : 4096 * 2 ^ 11 = 8 * 1048576)
    · exact (by decide : 4096 * 2 ^ 12 = 16 * 1048576)
  · rintro s g rfl
    exact ⟨rfl, rfl, rfl, rfl, rfl, beq_iff_eq, rfl, rfl⟩
  · refine ⟨ConfigSet.firstBad_coldReset st, itemEnable_windowItem .., itemBase_windowItem _ _ _ _ _ rfl,
      congrArg (4096 * 2 ^ ·) (itemExponent_windowItem _ _ _ _ _ (strapExponent_lt ..)), windowClass_defaultWindow ..,
      windowPermits_windowItem _ _ _ _, fun i h1 h8 => ?_, globalsColdReset_fields⟩
    rw [ConfigSet.coldReset_item st h1 h8]
    exact ⟨itemEnable_windowItem .., itemBase_windowItem _ _ _ _ _ rfl, itemExponent_windowItem _ _ _ _ _ (by decide),
      windowClass_posted (itemClassCode_windowItem _ _ _ _ _ (by decide)), windowPermits_windowItem _ _ _ _⟩

/-- Settles O51. -/
theorem faultListIsRead : Obligations.FaultListIsRead := by
  unfold Obligations.FaultListIsRead
  refine ⟨fun s r rest ht => exec_readFault_cons ht,
    fun s ht hl => ⟨exec_readFault_nil ht hl, fun h => h.overflow_nil hl⟩,
    fun s r => rfl, fun u r => ⟨FaultUnit.append_room r, FaultUnit.append_full r, _, _, r.encode_eq, ?_, ?_⟩⟩
  · cases r.kind <;> rfl
  · rw [FaultSource.presence_toNat]
    cases r.source <;> rfl

/-- Settles O52. -/
theorem readingCommandsAndResult : Obligations.ReadingCommandsAndResult := by
  unfold Obligations.ReadingCommandsAndResult
  refine ⟨fun s code data => rfl, fun s c response => exec_readsOnly,
    ⟨fun s ht => ⟨fun r => exec_result_ready ht, exec_result_none ht⟩, ResultRecord.encode_eq⟩,
    fun s hf => ⟨_, _, _, _, s.statusRecord_eq, ?_, ?_, BufState.codes_toNat .., LongKind.fetches_toNat _ hf⟩,
    fun b k c => ⟨?_, ?_, ?_⟩, fun r => ⟨_, rfl, ?_⟩, fun c => rfl⟩
  · cases s.control.mode <;> rfl
  · have hhalted : s.halted = decide ((s.buf .pb0).state = .held ∧ (s.buf .pb1).state = .held) := by
      rw [Bool.eq_iff_iff, State.halted_iff, decide_eq_true_iff]
      exact ⟨fun h => ⟨h .pb0, h .pb1⟩, fun h => Buf.rec h.1 h.2⟩
    rw [statusFlags_toNat, hhalted]
  · cases b <;> rfl
  · cases k <;> rfl
  · cases c <;> rfl
  · cases r.previous <;> rfl
end


section
/-! PROOF. SDO, the cut frames, unknown codes and REPROBE (10 R187 to R190; 08 R159; O54). -/
namespace Sys2Proof.Machine

theorem argBytes_iff (code : Byte) (n : Nat) : argBytes code = some n ↔
    n = 0 ∧ code ∈ ([0x01, 0x02, 0x03, 0x10, 0x11, 0x12, 0x23, 0x30, 0x31, 0x38, 0x39, 0x48] : List Byte)
      ∨ n = 1 ∧ code ∈ ([0x13, 0x20, 0x21, 0x40, 0x41] : List Byte) ∨ n = 3 ∧ code = 0x3A ∨ n = 11 ∧ code = 0x22
      ∨ n = 39 ∧ code = 0x3B := by
  simp only [List.mem_cons, List.not_mem_nil, or_false, BitVec.toNat_eq, BitVec.reduceToNat]
  unfold argBytes
  generalize code.toNat = k
  split
  case h_21 => simp_all
  all_goals exact (Option.some.injEq ..).to_iff.trans (eq_comm.trans (by simp))

/-- A frame is cut after a first edge, in a byte, and before the last bit of the arguments. -/
theorem cutBeforeCommand_iff (bytes : List Byte) (bits : Nat) :
    cutBeforeCommand bytes bits = true ↔ bits < 8 ∧ 0 < 8 * bytes.length + bits
      ∧ ∀ code args, bytes = code :: args → 8 * bytes.length + bits < 8 * (1 + (argBytes code).getD 0) := by
  cases bytes with
  | nil => simp [cutBeforeCommand, and_comm]
  | cons code args =>
    rw [cutBeforeCommand, Bool.and_eq_true, decide_eq_true_iff, decide_eq_true_iff, frameEdges, takenAfterBits]
    refine and_congr_right fun _ => ⟨fun h => ⟨by rw [List.length_cons]; omega, ?_⟩, fun h => h.2 code args rfl⟩
    rintro _ _ ⟨rfl, rfl⟩
    exact h

theorem sdoByte_command {n i : Nat} (response : List Byte) (h : i ≤ n) : sdoByte n response i = 0xFF := if_pos h

theorem sdoByte_response (n i : Nat) (response : List Byte) : sdoByte n response (n + 1 + i) = response.getD i 0xFF := by
  rw [sdoByte, if_neg (by omega), Nat.add_sub_cancel_left]

section
variable {s : State}

theorem State.takesFrames_iff : s.takesFrames = true ↔ s.rstn = true ∧ s.maint.awaitSsn = false := by
  rw [State.takesFrames, Bool.and_eq_true, Bool.not_eq_true']

theorem State.sdoHigh_of {ssn : SsnLevel} {b : Byte} (h : s.sdo ssn = some b) {j : Nat} (hj : j < 8) :
    s.sdoHigh ssn j = some (b.getLsbD (7 - j)) := by
  rw [State.sdoHigh, h, Option.map_some, BitVec.getMsbD, decide_eq_true hj, Bool.true_and]

section
variable (ht : s.takesFrames = true) (n : Nat)
include ht

theorem State.sdo_command {i : Nat} (h : i ≤ n) : s.sdo (.low n i) = some 0xFF := by
  obtain ⟨hr, ha⟩ := State.takesFrames_iff.mp ht
  rw [State.sdo_frame hr ha, sdoByte_command _ h]

theorem State.sdo_response (i : Nat) : s.sdo (.low n (n + 1 + i)) = some (s.maint.response.getD i 0xFF) := by
  obtain ⟨hr, ha⟩ := State.takesFrames_iff.mp ht
  rw [State.sdo_frame hr ha, sdoByte_response]

theorem exec_frameCutShort {bytes : List Byte} {bits : Nat} (hcut : cutBeforeCommand bytes bits = true) :
    exec (.frameCutShort bytes bits) s = .next (s.setMaint { s.maint with
      frameErrors := if s.maint.frameErrors = 255 then 255 else s.maint.frameErrors + 1 }) := by
  refine congrArg Host.Outcome.next ((if_pos (Bool.and_eq_true_iff.mpr ⟨ht, hcut⟩)).trans ?_)
  by_cases hfull : s.maint.frameErrors = 255
  · rw [if_pos hfull, if_pos hfull, hfull]
  · rw [if_neg hfull, if_neg hfull]

theorem exec_unknownCommand {code : Byte} (h : argBytes code = none) :
    exec (.unknownCommand code) s = .next (s.respond 0x06 []) :=
  congrArg Host.Outcome.next (if_pos (by rw [ht, h]; rfl))

theorem exec_reprobe_mode (hm : s.control.mode ≠ .failed) : exec .reprobe s = .next (s.respond 0x03 []) :=
  congrArg Host.Outcome.next ((if_pos ht).trans (if_neg (by simpa using hm)))

/-- From FAILED no access waits for the mode, so the change of mode is that of the control block alone. -/
theorem exec_reprobe_failed (hm : s.control.mode = .failed) : exec .reprobe s = .next ((((s.setControl { s.control with
    mode := if s.control.filtered then .pfDone else .starting, stopPending := false, resumePending := false
    fromStarting := s.control.filtered, request := if s.control.filtered then none else some .probe
  }).respond 0x00 [])).endEvent) := by
  refine congrArg Host.Outcome.next ((if_pos ht).trans ((if_pos (by rw [hm]; rfl)).trans ?_))
  cases hf : s.control.filtered with
  | false =>
    rw [if_neg Bool.false_ne_true, State.changeMode_from hm, Control.enter, hm]
    rfl
  | true =>
    rw [if_pos rfl, State.changeMode_from hm, Control.enter, hm]
    rfl

end

theorem exec_ssnRiseAfterReset (hr : s.rstn = true) :
    exec .ssnRiseAfterReset s = .next (s.setMaint { s.maint with awaitSsn := false }) :=
  congrArg Host.Outcome.next (if_pos hr)

end
end Sys2Proof.Machine

open Sys2Proof Sys2Proof.Machine

/-- Settles O54. -/
theorem framesAndReprobe : Obligations.FramesAndReprobe := by
  unfold Obligations.FramesAndReprobe
  refine ⟨fun s => State.takesFrames_iff, argBytes_iff, cutBeforeCommand_iff, fun s ht => ⟨s.sdo_high, ?_,
      fun n i => ⟨State.sdo_command ht n, State.sdo_response ht n i⟩⟩, fun s ht j hj => ⟨?_, fun n i => ⟨fun hi => ?_,
      State.sdoHigh_of (State.sdo_response ht n i) hj⟩⟩, fun s bytes bits ht => exec_frameCutShort ht,
    fun s code ht => exec_unknownCommand ht, fun s hr => ⟨exec_ssnRiseAfterReset hr, ?_⟩,
    fun s ht => ⟨exec_reprobe_mode ht, exec_reprobe_failed ht⟩⟩
  · rw [State.ssnBetween, (State.takesFrames_iff.mp ht).2]
    rfl
  · rw [State.sdoHigh, s.sdo_high]
    rfl
  · rw [State.sdoHigh_of (State.sdo_command ht n hi) hj]
    have hones : ∀ k < 8, (0xFF : Byte).getLsbD (7 - k) = true := by decide
    rw [hones j hj]
  · exact State.takesFrames_iff.mpr ⟨hr, rfl⟩
end
